-- ==== Sys2Proof/Word.lean ====
section
/-! DEFINITION. Word: the three widths of the block: the data byte (R8), the bus address (R9, D2) and the
transaction word (R70). -/

namespace Sys2Proof

/-- The data bus is 8 bits wide (R8). -/
abbrev Byte := BitVec 8

/-- A bus address, ADDR_BITS = 16 (R9, R39). -/
abbrev Addr := BitVec 16

/-- A transaction word T[26:0] (R70). -/
abbrev TxWord := BitVec 27

end Sys2Proof
end

