-- ==== Sys2Proof/Config.lean ====
section
/-! DEFINITION. Config: the names the spec gives its parts, the window descriptor (R75), the configuration
parameters (R9, R37) and the two families of free values (`draw()` of R11; ROM contents of R38).
The values of the reference configuration REFCFG are in Machine/RefConfig.lean. -/

namespace Sys2Proof

/-- The three processors (R7): P0 primary, P1 secondary-A, P2 secondary-B. -/
inductive Proc
  | p0 | p1 | p2
  deriving DecidableEq, Repr

/-- The direction of an access (R70). -/
inductive Dir
  | r | w
  deriving DecidableEq, Repr

/-- The four shared regions (R34, C1, C2). -/
inductive Region
  | vram | wramA | wramB | snd
  deriving DecidableEq, Repr

/-- The three I/O chip slots (R33, C10). -/
inductive Slot
  | s0 | s1 | s2
  deriving DecidableEq, Repr

/-- The four input groups (R32). -/
inductive Group
  | joy | btn | dswa | dswb
  deriving DecidableEq, Repr

/-- Which nibble of an input byte a read port forwards (R134). -/
inductive Half
  | lo | hi
  deriving DecidableEq, Repr

/-- The three chip kinds (R130). -/
inductive ChipKind
  | playerCoin | dipSwitch | unmodelled
  deriving DecidableEq, Repr

/-- One value for each processor. -/
structure PerProc (α : Type) where
  p0 : α
  p1 : α
  p2 : α
  deriving DecidableEq, Repr

/-- The value of processor `p`. -/
def PerProc.get {α : Type} (v : PerProc α) : Proc → α
  | .p0 => v.p0
  | .p1 => v.p1
  | .p2 => v.p2

/-- `v` with the value of processor `p` replaced. -/
def PerProc.set {α : Type} (v : PerProc α) (p : Proc) (a : α) : PerProc α :=
  match p with
  | .p0 => { v with p0 := a }
  | .p1 => { v with p1 := a }
  | .p2 => { v with p2 := a }

/-- One value for each shared region. -/
structure PerRegion (α : Type) where
  vram : α
  wramA : α
  wramB : α
  snd : α
  deriving DecidableEq, Repr

/-- The value of region `r`. -/
def PerRegion.get {α : Type} (v : PerRegion α) : Region → α
  | .vram => v.vram
  | .wramA => v.wramA
  | .wramB => v.wramB
  | .snd => v.snd

/-- `v` with the value of region `r` replaced. -/
def PerRegion.set {α : Type} (v : PerRegion α) (r : Region) (a : α) : PerRegion α :=
  match r with
  | .vram => { v with vram := a }
  | .wramA => { v with wramA := a }
  | .wramB => { v with wramB := a }
  | .snd => { v with snd := a }

/-- One value for each chip slot. -/
structure PerSlot (α : Type) where
  s0 : α
  s1 : α
  s2 : α
  deriving DecidableEq, Repr

/-- The value of slot `s`. -/
def PerSlot.get {α : Type} (v : PerSlot α) : Slot → α
  | .s0 => v.s0
  | .s1 => v.s1
  | .s2 => v.s2

/-- One value for each input group. -/
structure PerGroup (α : Type) where
  joy : α
  btn : α
  dswa : α
  dswb : α
  deriving DecidableEq, Repr

/-- The value of group `g`. -/
def PerGroup.get {α : Type} (v : PerGroup α) : Group → α
  | .joy => v.joy
  | .btn => v.btn
  | .dswa => v.dswa
  | .dswb => v.dswb

/-- `v` with the value of group `g` replaced. -/
def PerGroup.set {α : Type} (v : PerGroup α) (g : Group) (a : α) : PerGroup α :=
  match g with
  | .joy => { v with joy := a }
  | .btn => { v with btn := a }
  | .dswa => { v with dswa := a }
  | .dswb => { v with dswb := a }

/-- The kind of a window with the argument its kind takes (R75). A control window carries its key bit
`w.key` and the level `w.act` of it that enables or releases; the other kinds have no key. -/
inductive WindowKind
  | shared (r : Region)
  | rom (b : Proc)
  | io (slot : Slot)
  | intCtl (q : Proc) (key : Fin 16) (act : Bool)
  | subRst (key : Fin 16) (act : Bool)
  | ioRst (key : Fin 16) (act : Bool)
  | watchdog (q : Proc)
  deriving DecidableEq, Repr

/-- A window descriptor (R75): `w.dirs` as two booleans, `w.match`, `w.mask`, `w.offmask`, and the kind. -/
structure Window where
  rd : Bool
  wr : Bool
  value : Addr
  mask : Addr
  offmask : Addr
  kind : WindowKind
  deriving DecidableEq, Repr

/-- A ROM image (R38): its size, and the bytes the configuration lists. What an offset that is not listed
holds is the free value `Config.romByte` (log entry 6). -/
structure RomImage where
  size : Nat
  cells : List Host.Cell
  deriving DecidableEq, Repr

/-- What a read port forwards: one nibble of one input byte (R134). -/
structure Bind where
  group : Group
  half : Half
  deriving DecidableEq, Repr

/-- READ_BIND of one chip kind: its four read ports, each bound or unbound (R132). -/
structure PortBinds where
  r0 : Option Bind
  r1 : Option Bind
  r2 : Option Bind
  r3 : Option Bind
  deriving DecidableEq, Repr

/-- A range of bytes inside a region: one sprite sub-range (R35). -/
structure SpriteRange where
  region : Region
  base : Nat
  len : Nat
  deriving DecidableEq, Repr

/-- SPRITE_LAYOUT: the three sprite sub-ranges (R9, R35, C3). -/
structure SpriteLayout where
  first : SpriteRange
  second : SpriteRange
  third : SpriteRange
  deriving DecidableEq, Repr

/-- The parameters of the step relation, fixed before the first step (R9, R37). -/
structure Config where
  /-- DECODE: the ordered window table of each processor (R75, R83). -/
  decode : PerProc (List Window)
  /-- REGION_SIZE (R34). -/
  regionSize : PerRegion Nat
  /-- SPRITE_LAYOUT, which has no reference value (R9): `none` when the host supplies none. -/
  spriteLayout : Option SpriteLayout
  /-- ROM0, ROM1, ROM2 (R38). -/
  rom : PerProc RomImage
  /-- The chip kind of each slot: REVISION for slots 0 and 1, Unmodelled for slot 2 (R33, R130). -/
  kinds : PerSlot ChipKind
  /-- READ_BIND of the PlayerCoin kind (R132). -/
  bindPlayerCoin : PortBinds
  /-- READ_BIND of the DipSwitch kind (R132). -/
  bindDipSwitch : PortBinds
  /-- UNBOUND_READ (R137). -/
  unboundRead : Byte
  /-- QUIESCENT_READ (R136). -/
  quiescentRead : Byte
  /-- THIRD_SLOT_READ (R138). -/
  thirdSlotRead : Byte
  /-- COIN1_BIT (R141). -/
  coin1Bit : Fin 8
  /-- CHIP_IRQ_ROUTE[0] (R143). -/
  chipIrqRoute0 : Proc
  /-- CHIP_IRQ_ROUTE[1] (R143). -/
  chipIrqRoute1 : Proc
  /-- WD_HAS (R30). -/
  wdHas : PerProc Bool
  /-- WD_LIMIT (R30). -/
  wdLimit : Nat
  /-- IORST_POWERON: true is asserted (R29). -/
  ioRstPowerOn : Bool
  /-- SYSRESET_SUBRST: true is assert, false is keep (R212). -/
  sysResetSubRst : Bool
  /-- SYSRESET_IORST: true is assert, false is keep (R212). -/
  sysResetIoRst : Bool
  /-- INPUT_INIT (R32). -/
  inputInit : PerGroup Byte
  deriving DecidableEq, Repr

/-- FREE VALUE. The n-th byte drawn (`draw()` of R11): what a watchdog read (R156) or an unmapped read (R158)
returns. It has no body: no claim can depend on it (log entry 5). -/
opaque Config.freeByte : Nat → Byte

/-- FREE VALUE. The byte at an offset of processor `b`'s ROM image that the configuration does not list: ROM
contents are configuration and the spec gives none (R38, N2; log entry 6). -/
opaque Config.romByte : Proc → Nat → Byte

/-- The two owners of a region (R34): P0 and P1 for VRAM, WRAM_A and WRAM_B; P0 and P2 for SND. -/
def Region.ownedBy (r : Region) (p : Proc) : Bool :=
  match r, p with
  | .snd, .p0 => true
  | .snd, .p1 => false
  | .snd, .p2 => true
  | _, .p0 => true
  | _, .p1 => true
  | _, .p2 => false

end Sys2Proof
end

