-- ==== Sys2Proof/Syntax.lean ====
section
/-! DEFINITION. Syntax: the block's instructions (30_encoding.md): one constructor per row of opcode_table.json.
A processor row carries the address bits the row leaves open, as one field `low` (offset, key and don't-care
bits together: A[10:0] where the row fixes A[15:11], and so on), and a write carries its data byte, also where
the data is a don't-care (R160). The data of a read and the argument of TICK, POWERON and SYSRESET are no
operands (R71, R72). Beside them, the textual lines of R87 and the pseudo-transactions of R88. -/

namespace Sys2Proof

/-- The transactions and events, in the table's order (R89). -/
inductive Instr
  -- P0, reads
  | p0RdVram (low : BitVec 11)
  | p0RdWramA (low : BitVec 11)
  | p0RdWramB (low : BitVec 11)
  | p0RdSnd (low : BitVec 11)
  | p0RdIo0 (low : BitVec 4)
  | p0RdIo1 (low : BitVec 4)
  | p0RdIo2 (low : BitVec 4)
  | p0RdWdog (low : BitVec 11)
  | p0RdRom (low : BitVec 15)
  | p0RdUnmapped (addr : Addr)
  -- P0, writes
  | p0WrVram (low : BitVec 11) (data : Byte)
  | p0WrWramA (low : BitVec 11) (data : Byte)
  | p0WrWramB (low : BitVec 11) (data : Byte)
  | p0WrSnd (low : BitVec 11) (data : Byte)
  | p0WrIo0 (low : BitVec 4) (data : Byte)
  | p0WrIo1 (low : BitVec 4) (data : Byte)
  | p0WrIo2 (low : BitVec 4) (data : Byte)
  | p0WrIntctl0 (low : BitVec 12) (data : Byte)
  | p0WrSubrst (low : BitVec 12) (data : Byte)
  | p0WrIorst (low : BitVec 12) (data : Byte)
  | p0WrUnmapped (addr : Addr) (data : Byte)
  -- P1, reads
  | p1RdVram (low : BitVec 11)
  | p1RdWramA (low : BitVec 11)
  | p1RdWramB (low : BitVec 11)
  | p1RdRom (low : BitVec 13)
  | p1RdUnmapped (addr : Addr)
  -- P1, writes
  | p1WrVram (low : BitVec 11) (data : Byte)
  | p1WrWramA (low : BitVec 11) (data : Byte)
  | p1WrWramB (low : BitVec 11) (data : Byte)
  | p1WrIntctl1 (low : BitVec 12) (data : Byte)
  | p1WrUnmapped (addr : Addr) (data : Byte)
  -- P2, reads
  | p2RdSnd (low : BitVec 10)
  | p2RdWdog (low : BitVec 13)
  | p2RdRom (low : BitVec 13)
  | p2RdUnmapped (addr : Addr)
  -- P2, writes
  | p2WrSnd (low : BitVec 10) (data : Byte)
  | p2WrWdog (low : BitVec 13) (data : Byte)
  | p2WrIntctl2 (low : BitVec 14) (data : Byte)
  | p2WrUnmapped (addr : Addr) (data : Byte)
  -- system events
  | evTick
  | evPoweron
  | evSysreset
  | evSetinJoy (b : Byte)
  | evSetinBtn (b : Byte)
  | evSetinDswa (b : Byte)
  | evSetinDswb (b : Byte)
  | evReserved (rest : BitVec 25)
  deriving DecidableEq, Repr

/-- The access tuple a processor transaction carries: "(processor identity, address, direction, byte value)" (R70). -/
structure Access where
  proc : Proc
  dir : Dir
  addr : Addr
  data : Byte
  deriving DecidableEq, Repr

/-- What a word stands for: a processor's access, or, for agent 3, the 25 bits below the agent field (R70, R72). -/
inductive Tx
  | access (x : Access)
  | event (rest : BitVec 25)
  deriving DecidableEq, Repr

/-- A line of the textual syntax of R87. -/
inductive Line
  | rd (p : Proc) (a : Addr)
  | wr (p : Proc) (a : Addr) (d : Byte)
  | tick
  | poweron
  | sysreset
  | setin (g : Group) (b : Byte)
  deriving DecidableEq, Repr

/-- The pseudo-transactions of R88. -/
inductive Pseudo
  | ien0 | idis0 | ien1 | idis1 | ien2 | idis2
  | subrun | subhold | iorun | iohold | wdog0 | wdog2
  deriving DecidableEq, Repr

end Sys2Proof
end

