-- ==== Sys2Proof/WellFormed.lean ====
section
/-! DEFINITION. WellFormed: which terms of Instr stand for a word. A term of a window row always does, since its
fields have exactly the bits the row leaves open. A fallback row takes only what no other row of its agent and
direction takes: an Unmapped row the address ranges R86 lists, the reserved row the words R73 names. (The checks
of a configuration, R183, are in Machine/Setup.lean.) -/

namespace Sys2Proof

/-- `lo ≤ a ≤ hi` for an address. -/
def inRange (a : Addr) (lo hi : Nat) : Bool := decide (lo ≤ a.toNat) && decide (a.toNat ≤ hi)

/-- The addresses that are unmapped under REFCFG, per processor and direction: the ranges of R86. -/
def refUnmapped : Proc → Dir → Addr → Bool
  | .p0, .r, a => inRange a 0x1800 0x3FFF || inRange a 0x4800 0x67FF || inRange a 0x6830 0x6FFF ||
      inRange a 0x7000 0x77FF
  | .p0, .w, a => inRange a 0x1800 0x3FFF || inRange a 0x4800 0x67FF || inRange a 0x6830 0x6FFF ||
      inRange a 0xA000 0xFFFF
  | .p1, .r, a => inRange a 0x1800 0x5FFF || inRange a 0x7000 0xDFFF || inRange a 0x6000 0x6FFF
  | .p1, .w, a => inRange a 0x1800 0x5FFF || inRange a 0x7000 0xDFFF || inRange a 0xE000 0xFFFF
  | .p2, .r, a => inRange a 0x0400 0x1FFF || inRange a 0x8000 0xDFFF || inRange a 0x4000 0x7FFF
  | .p2, .w, a => inRange a 0x0400 0x1FFF || inRange a 0x8000 0xDFFF || inRange a 0xE000 0xFFFF

/-- The event codes E of R72. -/
def isEventCode (e : BitVec 16) : Bool :=
  e == 0x0000#16 || e == 0x0001#16 || e == 0x0002#16 ||
  e == 0x0010#16 || e == 0x0011#16 || e == 0x0012#16 || e == 0x0013#16

/-- The low 25 bits of an agent-3 word that R73 reserves: dir = 1, or a code that R72 does not list. -/
def isReservedRest (rest : BitVec 25) : Bool :=
  rest.extractLsb' 24 1 == 1#1 || !isEventCode (rest.extractLsb' 8 16)

/-- The term is an instruction of the table: a fallback row only where no other row matches (R86, R73). -/
def Instr.wf : Instr → Bool
  | .p0RdUnmapped a => refUnmapped .p0 .r a
  | .p0WrUnmapped a _ => refUnmapped .p0 .w a
  | .p1RdUnmapped a => refUnmapped .p1 .r a
  | .p1WrUnmapped a _ => refUnmapped .p1 .w a
  | .p2RdUnmapped a => refUnmapped .p2 .r a
  | .p2WrUnmapped a _ => refUnmapped .p2 .w a
  | .evReserved rest => isReservedRest rest
  | .p0RdVram _ | .p0RdWramA _ | .p0RdWramB _ | .p0RdSnd _ | .p0RdIo0 _ | .p0RdIo1 _ | .p0RdIo2 _
  | .p0RdWdog _ | .p0RdRom _
  | .p0WrVram _ _ | .p0WrWramA _ _ | .p0WrWramB _ _ | .p0WrSnd _ _ | .p0WrIo0 _ _ | .p0WrIo1 _ _
  | .p0WrIo2 _ _ | .p0WrIntctl0 _ _ | .p0WrSubrst _ _ | .p0WrIorst _ _
  | .p1RdVram _ | .p1RdWramA _ | .p1RdWramB _ | .p1RdRom _
  | .p1WrVram _ _ | .p1WrWramA _ _ | .p1WrWramB _ _ | .p1WrIntctl1 _ _
  | .p2RdSnd _ | .p2RdWdog _ | .p2RdRom _
  | .p2WrSnd _ _ | .p2WrWdog _ _ | .p2WrIntctl2 _ _
  | .evTick | .evPoweron | .evSysreset
  | .evSetinJoy _ | .evSetinBtn _ | .evSetinDswa _ | .evSetinDswb _ => true

end Sys2Proof
end

