-- ==== Sys2Proof/Decode.lean ====
section
/-! DEFINITION. Decode: from the 27-bit transaction word (R70-R74) to the row of opcode_table.json it belongs to,
and back. Every word belongs to exactly one row (R74): a processor word to the row of its agent and direction
whose fixed address bits it has, else to that agent's Unmapped row; an agent-3 word to the event its code names,
else to the reserved row (R73). A number of more than 27 bits is no word and is rejected. The row only names the
word: what a processor word does goes through the address decoder of Machine/Operands.lean (R100). -/

namespace Sys2Proof

/-! ### Packing and fields of the word (R70) -/

/-- The agent field of a processor (R70). -/
def Proc.agent : Proc → BitVec 2
  | .p0 => 0#2
  | .p1 => 1#2
  | .p2 => 2#2

/-- The dir field (R70): 0 read, 1 write. -/
def Dir.bit : Dir → BitVec 1
  | .r => 0#1
  | .w => 1#1

/-- `T = (agent[1:0], dir, A[15:0], D[7:0])` (R70). -/
def pack (agent : BitVec 2) (dir : BitVec 1) (a : Addr) (d : Byte) : TxWord := agent ++ dir ++ a ++ d

/-- T[26:25]. -/
def agentOf (w : TxWord) : BitVec 2 := w.extractLsb' 25 2

/-- T[24]. -/
def dirOf (w : TxWord) : BitVec 1 := w.extractLsb' 24 1

/-- T[23:8]. -/
def addrOf (w : TxWord) : Addr := w.extractLsb' 8 16

/-- T[7:0]. -/
def dataOf (w : TxWord) : Byte := w.extractLsb' 0 8

/-! ### The decoder -/

/-- The read rows of P0, each recognised by the address bits it fixes (opcode_table.json). -/
def decodeP0Rd (a : Addr) : Instr :=
  if a.extractLsb' 11 5 = 0x00#5 then .p0RdVram (a.extractLsb' 0 11)
  else if a.extractLsb' 11 5 = 0x01#5 then .p0RdWramA (a.extractLsb' 0 11)
  else if a.extractLsb' 11 5 = 0x02#5 then .p0RdWramB (a.extractLsb' 0 11)
  else if a.extractLsb' 11 5 = 0x08#5 then .p0RdSnd (a.extractLsb' 0 11)
  else if a.extractLsb' 4 12 = 0x680#12 then .p0RdIo0 (a.extractLsb' 0 4)
  else if a.extractLsb' 4 12 = 0x681#12 then .p0RdIo1 (a.extractLsb' 0 4)
  else if a.extractLsb' 4 12 = 0x682#12 then .p0RdIo2 (a.extractLsb' 0 4)
  else if a.extractLsb' 11 5 = 0x0F#5 then .p0RdWdog (a.extractLsb' 0 11)
  else if a.extractLsb' 15 1 = 0x1#1 then .p0RdRom (a.extractLsb' 0 15)
  else .p0RdUnmapped a

/-- The write rows of P0, each recognised by the address bits it fixes (opcode_table.json). -/
def decodeP0Wr (a : Addr) (d : Byte) : Instr :=
  if a.extractLsb' 11 5 = 0x00#5 then .p0WrVram (a.extractLsb' 0 11) d
  else if a.extractLsb' 11 5 = 0x01#5 then .p0WrWramA (a.extractLsb' 0 11) d
  else if a.extractLsb' 11 5 = 0x02#5 then .p0WrWramB (a.extractLsb' 0 11) d
  else if a.extractLsb' 11 5 = 0x08#5 then .p0WrSnd (a.extractLsb' 0 11) d
  else if a.extractLsb' 4 12 = 0x680#12 then .p0WrIo0 (a.extractLsb' 0 4) d
  else if a.extractLsb' 4 12 = 0x681#12 then .p0WrIo1 (a.extractLsb' 0 4) d
  else if a.extractLsb' 4 12 = 0x682#12 then .p0WrIo2 (a.extractLsb' 0 4) d
  else if a.extractLsb' 12 4 = 0x7#4 then .p0WrIntctl0 (a.extractLsb' 0 12) d
  else if a.extractLsb' 12 4 = 0x8#4 then .p0WrSubrst (a.extractLsb' 0 12) d
  else if a.extractLsb' 12 4 = 0x9#4 then .p0WrIorst (a.extractLsb' 0 12) d
  else .p0WrUnmapped a d

/-- The read rows of P1, each recognised by the address bits it fixes (opcode_table.json). -/
def decodeP1Rd (a : Addr) : Instr :=
  if a.extractLsb' 11 5 = 0x00#5 then .p1RdVram (a.extractLsb' 0 11)
  else if a.extractLsb' 11 5 = 0x01#5 then .p1RdWramA (a.extractLsb' 0 11)
  else if a.extractLsb' 11 5 = 0x02#5 then .p1RdWramB (a.extractLsb' 0 11)
  else if a.extractLsb' 13 3 = 0x7#3 then .p1RdRom (a.extractLsb' 0 13)
  else .p1RdUnmapped a

/-- The write rows of P1, each recognised by the address bits it fixes (opcode_table.json). -/
def decodeP1Wr (a : Addr) (d : Byte) : Instr :=
  if a.extractLsb' 11 5 = 0x00#5 then .p1WrVram (a.extractLsb' 0 11) d
  else if a.extractLsb' 11 5 = 0x01#5 then .p1WrWramA (a.extractLsb' 0 11) d
  else if a.extractLsb' 11 5 = 0x02#5 then .p1WrWramB (a.extractLsb' 0 11) d
  else if a.extractLsb' 12 4 = 0x6#4 then .p1WrIntctl1 (a.extractLsb' 0 12) d
  else .p1WrUnmapped a d

/-- The read rows of P2, each recognised by the address bits it fixes (opcode_table.json). -/
def decodeP2Rd (a : Addr) : Instr :=
  if a.extractLsb' 10 6 = 0x00#6 then .p2RdSnd (a.extractLsb' 0 10)
  else if a.extractLsb' 13 3 = 0x1#3 then .p2RdWdog (a.extractLsb' 0 13)
  else if a.extractLsb' 13 3 = 0x7#3 then .p2RdRom (a.extractLsb' 0 13)
  else .p2RdUnmapped a

/-- The write rows of P2, each recognised by the address bits it fixes (opcode_table.json). -/
def decodeP2Wr (a : Addr) (d : Byte) : Instr :=
  if a.extractLsb' 10 6 = 0x00#6 then .p2WrSnd (a.extractLsb' 0 10) d
  else if a.extractLsb' 13 3 = 0x1#3 then .p2WrWdog (a.extractLsb' 0 13) d
  else if a.extractLsb' 14 2 = 0x1#2 then .p2WrIntctl2 (a.extractLsb' 0 14) d
  else .p2WrUnmapped a d

/-- The event rows (R72) and the reserved row (R73). -/
def decodeEvent (w : TxWord) : Instr :=
  if dirOf w = 1#1 then .evReserved (w.extractLsb' 0 25)
  else if addrOf w = 0x0000#16 then .evTick
  else if addrOf w = 0x0001#16 then .evPoweron
  else if addrOf w = 0x0002#16 then .evSysreset
  else if addrOf w = 0x0010#16 then .evSetinJoy (dataOf w)
  else if addrOf w = 0x0011#16 then .evSetinBtn (dataOf w)
  else if addrOf w = 0x0012#16 then .evSetinDswa (dataOf w)
  else if addrOf w = 0x0013#16 then .evSetinDswb (dataOf w)
  else .evReserved (w.extractLsb' 0 25)

/-- The row of a word: the kind comes from T[26:24], and for a processor word also from its address (R74). The data
field of a read is not looked at (R71). -/
def decode (w : TxWord) : Instr :=
  if agentOf w = 0#2 then
    if dirOf w = 0#1 then decodeP0Rd (addrOf w) else decodeP0Wr (addrOf w) (dataOf w)
  else if agentOf w = 1#2 then
    if dirOf w = 0#1 then decodeP1Rd (addrOf w) else decodeP1Wr (addrOf w) (dataOf w)
  else if agentOf w = 2#2 then
    if dirOf w = 0#1 then decodeP2Rd (addrOf w) else decodeP2Wr (addrOf w) (dataOf w)
  else decodeEvent w

/-- Why a number is no transaction word. -/
inductive DecodeError
  /-- The number has a bit above bit 26: a transaction is one word of fixed length (R74). -/
  | moreThan27Bits
  deriving DecidableEq, Repr

/-- The decoder on any number: rejects by name what is no 27-bit word. -/
def decodeNat (n : Nat) : Except DecodeError Instr :=
  if n < 2 ^ 27 then .ok (decode (BitVec.ofNat 27 n)) else .error .moreThan27Bits

/-- The host's view of the decoder: the word's bits are numbered as opcode_table.json numbers them, which is R70's own
numbering, and a word is one number, so `nbits` plays no part (log entry 16). -/
def decodeTableWord (_nbits w : Nat) : Option Instr :=
  match decodeNat w with
  | .ok i => some i
  | .error _ => none

/-! ### The encoder -/

/-- The low 25 bits of an event word: dir 0, code E, argument G (R72). -/
def eventRest (e : BitVec 16) (g : Byte) : BitVec 25 := 0#1 ++ e ++ g

/-- What an instruction stands for: a processor row the access (R70): its row's fixed address bits above its open
bits; and the event words, with the canonical argument 0 where the argument is ignored (R72). -/
def Instr.tx : Instr → Tx
  | .p0RdVram low => .access ⟨.p0, .r, 0x00#5 ++ low, 0x00#8⟩
  | .p0RdWramA low => .access ⟨.p0, .r, 0x01#5 ++ low, 0x00#8⟩
  | .p0RdWramB low => .access ⟨.p0, .r, 0x02#5 ++ low, 0x00#8⟩
  | .p0RdSnd low => .access ⟨.p0, .r, 0x08#5 ++ low, 0x00#8⟩
  | .p0RdIo0 low => .access ⟨.p0, .r, 0x680#12 ++ low, 0x00#8⟩
  | .p0RdIo1 low => .access ⟨.p0, .r, 0x681#12 ++ low, 0x00#8⟩
  | .p0RdIo2 low => .access ⟨.p0, .r, 0x682#12 ++ low, 0x00#8⟩
  | .p0RdWdog low => .access ⟨.p0, .r, 0x0F#5 ++ low, 0x00#8⟩
  | .p0RdRom low => .access ⟨.p0, .r, 0x1#1 ++ low, 0x00#8⟩
  | .p0RdUnmapped a => .access ⟨.p0, .r, a, 0x00#8⟩
  | .p0WrVram low d => .access ⟨.p0, .w, 0x00#5 ++ low, d⟩
  | .p0WrWramA low d => .access ⟨.p0, .w, 0x01#5 ++ low, d⟩
  | .p0WrWramB low d => .access ⟨.p0, .w, 0x02#5 ++ low, d⟩
  | .p0WrSnd low d => .access ⟨.p0, .w, 0x08#5 ++ low, d⟩
  | .p0WrIo0 low d => .access ⟨.p0, .w, 0x680#12 ++ low, d⟩
  | .p0WrIo1 low d => .access ⟨.p0, .w, 0x681#12 ++ low, d⟩
  | .p0WrIo2 low d => .access ⟨.p0, .w, 0x682#12 ++ low, d⟩
  | .p0WrIntctl0 low d => .access ⟨.p0, .w, 0x7#4 ++ low, d⟩
  | .p0WrSubrst low d => .access ⟨.p0, .w, 0x8#4 ++ low, d⟩
  | .p0WrIorst low d => .access ⟨.p0, .w, 0x9#4 ++ low, d⟩
  | .p0WrUnmapped a d => .access ⟨.p0, .w, a, d⟩
  | .p1RdVram low => .access ⟨.p1, .r, 0x00#5 ++ low, 0x00#8⟩
  | .p1RdWramA low => .access ⟨.p1, .r, 0x01#5 ++ low, 0x00#8⟩
  | .p1RdWramB low => .access ⟨.p1, .r, 0x02#5 ++ low, 0x00#8⟩
  | .p1RdRom low => .access ⟨.p1, .r, 0x7#3 ++ low, 0x00#8⟩
  | .p1RdUnmapped a => .access ⟨.p1, .r, a, 0x00#8⟩
  | .p1WrVram low d => .access ⟨.p1, .w, 0x00#5 ++ low, d⟩
  | .p1WrWramA low d => .access ⟨.p1, .w, 0x01#5 ++ low, d⟩
  | .p1WrWramB low d => .access ⟨.p1, .w, 0x02#5 ++ low, d⟩
  | .p1WrIntctl1 low d => .access ⟨.p1, .w, 0x6#4 ++ low, d⟩
  | .p1WrUnmapped a d => .access ⟨.p1, .w, a, d⟩
  | .p2RdSnd low => .access ⟨.p2, .r, 0x00#6 ++ low, 0x00#8⟩
  | .p2RdWdog low => .access ⟨.p2, .r, 0x1#3 ++ low, 0x00#8⟩
  | .p2RdRom low => .access ⟨.p2, .r, 0x7#3 ++ low, 0x00#8⟩
  | .p2RdUnmapped a => .access ⟨.p2, .r, a, 0x00#8⟩
  | .p2WrSnd low d => .access ⟨.p2, .w, 0x00#6 ++ low, d⟩
  | .p2WrWdog low d => .access ⟨.p2, .w, 0x1#3 ++ low, d⟩
  | .p2WrIntctl2 low d => .access ⟨.p2, .w, 0x1#2 ++ low, d⟩
  | .p2WrUnmapped a d => .access ⟨.p2, .w, a, d⟩
  | .evTick => .event (eventRest 0x0000#16 0x00#8)
  | .evPoweron => .event (eventRest 0x0001#16 0x00#8)
  | .evSysreset => .event (eventRest 0x0002#16 0x00#8)
  | .evSetinJoy b => .event (eventRest 0x0010#16 b)
  | .evSetinBtn b => .event (eventRest 0x0011#16 b)
  | .evSetinDswa b => .event (eventRest 0x0012#16 b)
  | .evSetinDswb b => .event (eventRest 0x0013#16 b)
  | .evReserved rest => .event rest

/-- The access of a processor instruction; none for an event. -/
def Instr.access (i : Instr) : Option Access :=
  match i.tx with
  | .access x => some x
  | .event _ => none

/-- The word of a transaction (R70). -/
def Tx.word : Tx → TxWord
  | .access x => pack x.proc.agent x.dir.bit x.addr x.data
  | .event rest => 3#2 ++ rest

/-- The canonical word of an instruction (R70-R73). -/
def encode (i : Instr) : TxWord := i.tx.word

/-! ### The rows of opcode_table.json (R89) -/

/-- One row: its mnemonic, its `match` and `mask` over the word, and whether it is a fallback row. -/
structure OpRow where
  mnemonic : String
  value : TxWord
  mask : TxWord
  fallback : Bool
  deriving DecidableEq, Repr

/-- The word has the bits the row fixes. -/
def OpRow.hits (o : OpRow) (w : TxWord) : Bool := w &&& o.mask == o.value

/-- The row of opcode_table.json an instruction belongs to. -/
def Instr.row : Instr → OpRow
  | .p0RdVram _ => ⟨"P0.RD.VRAM", 0x0000000#27, 0x7F80000#27, false⟩
  | .p0RdWramA _ => ⟨"P0.RD.WRAM_A", 0x0080000#27, 0x7F80000#27, false⟩
  | .p0RdWramB _ => ⟨"P0.RD.WRAM_B", 0x0100000#27, 0x7F80000#27, false⟩
  | .p0RdSnd _ => ⟨"P0.RD.SND", 0x0400000#27, 0x7F80000#27, false⟩
  | .p0RdIo0 _ => ⟨"P0.RD.IO0", 0x0680000#27, 0x7FFF000#27, false⟩
  | .p0RdIo1 _ => ⟨"P0.RD.IO1", 0x0681000#27, 0x7FFF000#27, false⟩
  | .p0RdIo2 _ => ⟨"P0.RD.IO2", 0x0682000#27, 0x7FFF000#27, false⟩
  | .p0RdWdog _ => ⟨"P0.RD.WDOG", 0x0780000#27, 0x7F80000#27, false⟩
  | .p0RdRom _ => ⟨"P0.RD.ROM", 0x0800000#27, 0x7800000#27, false⟩
  | .p0RdUnmapped _ => ⟨"P0.RD.UNMAPPED", 0x0000000#27, 0x7000000#27, true⟩
  | .p0WrVram _ _ => ⟨"P0.WR.VRAM", 0x1000000#27, 0x7F80000#27, false⟩
  | .p0WrWramA _ _ => ⟨"P0.WR.WRAM_A", 0x1080000#27, 0x7F80000#27, false⟩
  | .p0WrWramB _ _ => ⟨"P0.WR.WRAM_B", 0x1100000#27, 0x7F80000#27, false⟩
  | .p0WrSnd _ _ => ⟨"P0.WR.SND", 0x1400000#27, 0x7F80000#27, false⟩
  | .p0WrIo0 _ _ => ⟨"P0.WR.IO0", 0x1680000#27, 0x7FFF000#27, false⟩
  | .p0WrIo1 _ _ => ⟨"P0.WR.IO1", 0x1681000#27, 0x7FFF000#27, false⟩
  | .p0WrIo2 _ _ => ⟨"P0.WR.IO2", 0x1682000#27, 0x7FFF000#27, false⟩
  | .p0WrIntctl0 _ _ => ⟨"P0.WR.INTCTL0", 0x1700000#27, 0x7F00000#27, false⟩
  | .p0WrSubrst _ _ => ⟨"P0.WR.SUBRST", 0x1800000#27, 0x7F00000#27, false⟩
  | .p0WrIorst _ _ => ⟨"P0.WR.IORST", 0x1900000#27, 0x7F00000#27, false⟩
  | .p0WrUnmapped _ _ => ⟨"P0.WR.UNMAPPED", 0x1000000#27, 0x7000000#27, true⟩
  | .p1RdVram _ => ⟨"P1.RD.VRAM", 0x2000000#27, 0x7F80000#27, false⟩
  | .p1RdWramA _ => ⟨"P1.RD.WRAM_A", 0x2080000#27, 0x7F80000#27, false⟩
  | .p1RdWramB _ => ⟨"P1.RD.WRAM_B", 0x2100000#27, 0x7F80000#27, false⟩
  | .p1RdRom _ => ⟨"P1.RD.ROM", 0x2E00000#27, 0x7E00000#27, false⟩
  | .p1RdUnmapped _ => ⟨"P1.RD.UNMAPPED", 0x2000000#27, 0x7000000#27, true⟩
  | .p1WrVram _ _ => ⟨"P1.WR.VRAM", 0x3000000#27, 0x7F80000#27, false⟩
  | .p1WrWramA _ _ => ⟨"P1.WR.WRAM_A", 0x3080000#27, 0x7F80000#27, false⟩
  | .p1WrWramB _ _ => ⟨"P1.WR.WRAM_B", 0x3100000#27, 0x7F80000#27, false⟩
  | .p1WrIntctl1 _ _ => ⟨"P1.WR.INTCTL1", 0x3600000#27, 0x7F00000#27, false⟩
  | .p1WrUnmapped _ _ => ⟨"P1.WR.UNMAPPED", 0x3000000#27, 0x7000000#27, true⟩
  | .p2RdSnd _ => ⟨"P2.RD.SND", 0x4000000#27, 0x7FC0000#27, false⟩
  | .p2RdWdog _ => ⟨"P2.RD.WDOG", 0x4200000#27, 0x7E00000#27, false⟩
  | .p2RdRom _ => ⟨"P2.RD.ROM", 0x4E00000#27, 0x7E00000#27, false⟩
  | .p2RdUnmapped _ => ⟨"P2.RD.UNMAPPED", 0x4000000#27, 0x7000000#27, true⟩
  | .p2WrSnd _ _ => ⟨"P2.WR.SND", 0x5000000#27, 0x7FC0000#27, false⟩
  | .p2WrWdog _ _ => ⟨"P2.WR.WDOG", 0x5200000#27, 0x7E00000#27, false⟩
  | .p2WrIntctl2 _ _ => ⟨"P2.WR.INTCTL2", 0x5400000#27, 0x7C00000#27, false⟩
  | .p2WrUnmapped _ _ => ⟨"P2.WR.UNMAPPED", 0x5000000#27, 0x7000000#27, true⟩
  | .evTick => ⟨"EV.TICK", 0x6000000#27, 0x7FFFF00#27, false⟩
  | .evPoweron => ⟨"EV.POWERON", 0x6000100#27, 0x7FFFF00#27, false⟩
  | .evSysreset => ⟨"EV.SYSRESET", 0x6000200#27, 0x7FFFF00#27, false⟩
  | .evSetinJoy _ => ⟨"EV.SETIN.JOY", 0x6001000#27, 0x7FFFF00#27, false⟩
  | .evSetinBtn _ => ⟨"EV.SETIN.BTN", 0x6001100#27, 0x7FFFF00#27, false⟩
  | .evSetinDswa _ => ⟨"EV.SETIN.DSWA", 0x6001200#27, 0x7FFFF00#27, false⟩
  | .evSetinDswb _ => ⟨"EV.SETIN.DSWB", 0x6001300#27, 0x7FFFF00#27, false⟩
  | .evReserved _ => ⟨"EV.RESERVED", 0x6000000#27, 0x6000000#27, true⟩

/-- The 40 rows that are no fallback, as the table has them. -/
def plainRows : List OpRow :=
  [Instr.row (.p0RdVram 0), Instr.row (.p0RdWramA 0), Instr.row (.p0RdWramB 0), Instr.row (.p0RdSnd 0),
   Instr.row (.p0RdIo0 0), Instr.row (.p0RdIo1 0), Instr.row (.p0RdIo2 0), Instr.row (.p0RdWdog 0),
   Instr.row (.p0RdRom 0), Instr.row (.p0WrVram 0 0), Instr.row (.p0WrWramA 0 0), Instr.row (.p0WrWramB 0 0),
   Instr.row (.p0WrSnd 0 0), Instr.row (.p0WrIo0 0 0), Instr.row (.p0WrIo1 0 0), Instr.row (.p0WrIo2 0 0),
   Instr.row (.p0WrIntctl0 0 0), Instr.row (.p0WrSubrst 0 0), Instr.row (.p0WrIorst 0 0)] ++
  [Instr.row (.p1RdVram 0), Instr.row (.p1RdWramA 0), Instr.row (.p1RdWramB 0), Instr.row (.p1RdRom 0),
   Instr.row (.p1WrVram 0 0), Instr.row (.p1WrWramA 0 0), Instr.row (.p1WrWramB 0 0), Instr.row (.p1WrIntctl1 0 0),
   Instr.row (.p2RdSnd 0), Instr.row (.p2RdWdog 0), Instr.row (.p2RdRom 0), Instr.row (.p2WrSnd 0 0),
   Instr.row (.p2WrWdog 0 0), Instr.row (.p2WrIntctl2 0 0)] ++
  [Instr.row .evTick, Instr.row .evPoweron, Instr.row .evSysreset, Instr.row (.evSetinJoy 0),
   Instr.row (.evSetinBtn 0), Instr.row (.evSetinDswa 0), Instr.row (.evSetinDswb 0)]

/-! ### Lines and pseudo-transactions (R87, R88) -/

/-- The event code of a SETIN (R72). -/
def Group.code : Group → BitVec 16
  | .joy => 0x0010#16
  | .btn => 0x0011#16
  | .dswa => 0x0012#16
  | .dswb => 0x0013#16

/-- "Each line assembles to one word under rules R70-R72" (R87). -/
def assemble : Line → TxWord
  | .rd p a => pack p.agent 0#1 a 0x00#8
  | .wr p a d => pack p.agent 1#1 a d
  | .tick => pack 3#2 0#1 0x0000#16 0x00#8
  | .poweron => pack 3#2 0#1 0x0001#16 0x00#8
  | .sysreset => pack 3#2 0#1 0x0002#16 0x00#8
  | .setin g b => pack 3#2 0#1 g.code b

/-- The expansion of a pseudo-transaction under REFCFG (R88). -/
def Pseudo.expand : Pseudo → Line
  | .ien0 => .wr .p0 0x7000#16 0x00#8
  | .idis0 => .wr .p0 0x7800#16 0x00#8
  | .ien1 => .wr .p1 0x6001#16 0x00#8
  | .idis1 => .wr .p1 0x6000#16 0x00#8
  | .ien2 => .wr .p2 0x4000#16 0x00#8
  | .idis2 => .wr .p2 0x6000#16 0x00#8
  | .subrun => .wr .p0 0x8000#16 0x00#8
  | .subhold => .wr .p0 0x8800#16 0x00#8
  | .iorun => .wr .p0 0x9000#16 0x00#8
  | .iohold => .wr .p0 0x9800#16 0x00#8
  | .wdog0 => .rd .p0 0x7800#16
  | .wdog2 => .rd .p2 0x2000#16

end Sys2Proof
end

