-- ==== Sys2Proof/Machine/RefConfig.lean ====
section
/-! DEFINITION. Machine/RefConfig: the reference configuration REFCFG (R9, R84). Its numbers are the spec's own
choice, not the board's (D4; log entry 9). -/

namespace Sys2Proof.Machine

/-- DECODE[P0] of R84, W0.1 to W0.12. -/
def refDecodeP0 : List Window :=
  [⟨true, true, 0x0000, 0xF800, 0x07FF, .shared .vram⟩,
   ⟨true, true, 0x0800, 0xF800, 0x07FF, .shared .wramA⟩,
   ⟨true, true, 0x1000, 0xF800, 0x07FF, .shared .wramB⟩,
   ⟨true, true, 0x4000, 0xF800, 0x03FF, .shared .snd⟩,
   ⟨true, true, 0x6800, 0xFFF0, 0x0003, .io .s0⟩,
   ⟨true, true, 0x6810, 0xFFF0, 0x0003, .io .s1⟩,
   ⟨true, true, 0x6820, 0xFFF0, 0x0003, .io .s2⟩,
   ⟨false, true, 0x7000, 0xF000, 0x0000, .intCtl .p0 11 false⟩,
   ⟨true, false, 0x7800, 0xF800, 0x0000, .watchdog .p0⟩,
   ⟨false, true, 0x8000, 0xF000, 0x0000, .subRst 11 false⟩,
   ⟨false, true, 0x9000, 0xF000, 0x0000, .ioRst 11 false⟩,
   ⟨true, false, 0x8000, 0x8000, 0x7FFF, .rom .p0⟩]

/-- DECODE[P1] of R84, W1.1 to W1.5. -/
def refDecodeP1 : List Window :=
  [⟨true, true, 0x0000, 0xF800, 0x07FF, .shared .vram⟩,
   ⟨true, true, 0x0800, 0xF800, 0x07FF, .shared .wramA⟩,
   ⟨true, true, 0x1000, 0xF800, 0x07FF, .shared .wramB⟩,
   ⟨false, true, 0x6000, 0xF000, 0x0000, .intCtl .p1 0 true⟩,
   ⟨true, false, 0xE000, 0xE000, 0x1FFF, .rom .p1⟩]

/-- DECODE[P2] of R84, W2.1 to W2.4. -/
def refDecodeP2 : List Window :=
  [⟨true, true, 0x0000, 0xFC00, 0x03FF, .shared .snd⟩,
   ⟨true, true, 0x2000, 0xE000, 0x0000, .watchdog .p2⟩,
   ⟨false, true, 0x4000, 0xC000, 0x0000, .intCtl .p2 13 false⟩,
   ⟨true, false, 0xE000, 0xE000, 0x1FFF, .rom .p2⟩]

/-- The reference decode tables (R84). -/
def refDecode : PerProc (List Window) := ⟨refDecodeP0, refDecodeP1, refDecodeP2⟩

/-- The reference bindings of the PlayerCoin kind (R132): JOY lo, BTN lo, JOY hi, BTN hi. -/
def refPlayerCoin : PortBinds :=
  ⟨some ⟨.joy, .lo⟩, some ⟨.btn, .lo⟩, some ⟨.joy, .hi⟩, some ⟨.btn, .hi⟩⟩

/-- The reference bindings of the DipSwitch kind (R132): DSWA lo, DSWB lo, DSWA hi, DSWB hi. -/
def refDipSwitch : PortBinds :=
  ⟨some ⟨.dswa, .lo⟩, some ⟨.dswb, .lo⟩, some ⟨.dswa, .hi⟩, some ⟨.dswb, .hi⟩⟩

/-- REV_A: slot 0 PlayerCoin, slot 1 DipSwitch (R130). -/
def revA : PerSlot ChipKind := ⟨.playerCoin, .dipSwitch, .unmodelled⟩

/-- REV_B: slot 0 DipSwitch, slot 1 PlayerCoin (R130). -/
def revB : PerSlot ChipKind := ⟨.dipSwitch, .playerCoin, .unmodelled⟩

/-- REFCFG (R84) with the reference values of R9. SPRITE_LAYOUT has none (log entry 11), ROM contents have none (log
entry 6), and INPUT_INIT is the host's: 0xFF each (log entry 7). -/
def refConfig : Config where
  decode := refDecode
  regionSize := ⟨0x800, 0x800, 0x800, 0x400⟩
  spriteLayout := none
  rom := ⟨⟨0x8000, []⟩, ⟨0x2000, []⟩, ⟨0x2000, []⟩⟩
  kinds := revA
  bindPlayerCoin := refPlayerCoin
  bindDipSwitch := refDipSwitch
  unboundRead := 0x0F
  quiescentRead := 0x0F
  thirdSlotRead := 0x0F
  coin1Bit := 0
  chipIrqRoute0 := .p0
  chipIrqRoute1 := .p1
  wdHas := ⟨true, false, true⟩
  wdLimit := 8
  ioRstPowerOn := true
  sysResetSubRst := true
  sysResetIoRst := true
  inputInit := ⟨0xFF, 0xFF, 0xFF, 0xFF⟩

end Sys2Proof.Machine
end

