-- ==== Sys2Proof/Machine/State.lean ====
section
/-! DEFINITION. Machine/State: everything the spec gives the block (10_state.md), its faults and refusals, and the
power-on state (R42, R211). -/

namespace Sys2Proof.Machine

/-- The bytes of a region, sparse: offset and byte, offsets strictly rising, no byte equal to 0x00, which is what an
unlisted offset holds (R34: every byte is 0x00 at power-on). -/
abbrev Memory := List Host.Cell

/-- A diagnostic record `(code, p, dir, A, D)` (R181). -/
structure Diag where
  code : Nat
  proc : Proc
  dir : Dir
  addr : Addr
  data : Byte
  deriving DecidableEq, Repr

/-- The output events (R36). -/
inductive OutEvent
  /-- One pulse of coin counter `k` (R140, R141). -/
  | coinPulse (k : Fin 2)
  /-- An interrupt pulse from the chip in a slot, labelled with the routed processor (R143). -/
  | chipIrqPulse (slot : Slot) (q : Proc)
  /-- The processor is returned to its reset vector (R210, R212). -/
  | resetPulse (p : Proc)
  /-- The watchdog of the processor expired (R170). -/
  | watchdogReset (p : Proc)
  deriving DecidableEq, Repr

/-- What the last step drove back to its issuer: the model's own field for `return v` (R11; log entry 3). -/
inductive Reply
  /-- Nothing: a write, an event, or no step yet. -/
  | none
  /-- A read by `p` returned `v`. -/
  | data (p : Proc) (v : Byte)
  /-- `p` is held in reset and has no step (R43; log entry 4). -/
  | held (p : Proc)
  deriving DecidableEq, Repr

/-- The four kinds of abnormal event of R180; the codes are in Machine/Codes.lean. -/
inductive Abnormal
  /-- UNMAPPED: an access that decodes to Unmapped. -/
  | unmapped
  /-- WATCHDOG: a counter that reaches WD_LIMIT. -/
  | watchdog
  /-- REFUSED: a reserved word. -/
  | refused
  /-- CONFIG_Wn: a configuration that fails check Wn. -/
  | config (n : Nat)
  deriving DecidableEq, Repr

/-- Which check of R183 a configuration fails, and the window (its processor and its place in the table) where the
check is about one. Its code is 0x10 + n (R180). -/
structure ConfigError where
  check : Nat
  window : Option (Proc × Nat)
  deriving DecidableEq, Repr

/-- What stops the machine. No configuration that passes R183 reaches one of these; they stand for the accesses the
spec rules out by its setup checks. -/
inductive Fault
  /-- Raised by a shared read or write at an offset outside its region ("out-of-declared-range offsets are a
  configuration-time contract violation", R52). Safe: the machine stops where the spec gives no access. -/
  | regionOffset (r : Region) (off : Nat)
  /-- Raised by a ROM read at an offset outside the image (R122, W3). Safe. -/
  | romOffset (b : Proc) (off : Nat)
  /-- Raised by an access whose target and direction R106 gives no rule (W6). Safe. -/
  | noTransactionRule (p : Proc) (dir : Dir) (a : Addr)
  /-- Raised by an access to the watchdog of a processor that has none (R30: "no counter exists"; W7). Safe. -/
  | noWatchdog (q : Proc)
  deriving DecidableEq, Repr

/-- What the model refuses. -/
inductive Refusal
  /-- Raised by an arm of `exec` that has no meaning yet; no arm is. Safe. -/
  | notModelled (mnemonic : String)
  /-- Raised by EV.RESERVED: a reserved word has no meaning and no step (R73, code 3 REFUSED of R180). Safe. -/
  | reserved (w : TxWord)
  /-- Raised by `step` when the configuration fails the listed checks (R183, codes CONFIG_Wn of R180). Safe. -/
  | configuration (errors : List ConfigError)
  /-- Raised by `step` when no agent has issued a transaction: there is no step to take (log entry 2). Safe. -/
  | noTransaction
  deriving DecidableEq, Repr

/-- The state of the block. -/
structure State where
  /-- The configuration, fixed before the first step (R37); no step writes it (log entry 1). -/
  cfg : Config
  /-- `ie[p]`: the interrupt-enable latches (R23). -/
  ie : PerProc Bool
  /-- `irq[p]`: the interrupt lines (R24). -/
  irq : PerProc Bool
  /-- The secondary-reset line: true holds P1 and P2 (R26). -/
  subrst : Bool
  /-- The I/O-chip reset line: true holds the chips of slots 0 and 1 (R29). -/
  iorst : Bool
  /-- `wd[p]`: the watchdog counters, for the processors of WD_HAS (R30; log entry 13 for the others). -/
  wd : PerProc Nat
  /-- `lamp[0]` (R31). -/
  lamp0 : Bool
  /-- `lamp[1]` (R31). -/
  lamp1 : Bool
  /-- The coin lockout (R31). -/
  lockout : Bool
  /-- The host's input bytes (R32). -/
  inp : PerGroup Byte
  /-- The shared regions (R34). -/
  mem : PerRegion Memory
  /-- The diagnostic log, oldest first (R36, R181). -/
  diag : List Diag
  /-- The output log, oldest first (R36). -/
  out : List OutEvent
  /-- What the last step drove back (log entry 3). -/
  reply : Reply
  /-- How many free bytes have been drawn (R11; log entry 5). -/
  draws : Nat
  /-- The transaction words still to be taken, first the next, in the total order of R54 (log entry 2). -/
  pending : List TxWord
  deriving DecidableEq, Repr

/-- The power-on state S0 of a configuration (R42, R211). -/
def State.powerOn (c : Config) : State where
  cfg := c
  ie := ⟨false, false, false⟩
  irq := ⟨false, false, false⟩
  subrst := true
  iorst := c.ioRstPowerOn
  wd := ⟨0, 0, 0⟩
  lamp0 := false
  lamp1 := false
  lockout := false
  inp := c.inputInit
  mem := ⟨[], [], [], []⟩
  diag := []
  out := []
  reply := .none
  draws := 0
  pending := []

/-- The machine right after reset: S0 under REFCFG (R42, R84, R211). -/
def State.reset : State := State.powerOn refConfig

/-- The outcome of an instruction. -/
abbrev Result := Host.Outcome State Fault Refusal

end Sys2Proof.Machine
end

