-- ==== Sys2Proof/Machine/Codes.lean ====
section
/-! DEFINITION. Machine/Codes: the codes of the four kinds of abnormal event (R180), and which code an output event
and a refusal carry. -/

namespace Sys2Proof.Machine

/-- The code of a kind of abnormal event (the table of R180). -/
def Abnormal.code : Abnormal → Nat
  | .unmapped => 1
  | .watchdog => 2
  | .refused => 3
  | .config n => 0x10 + n

/-- The code of a failed setup check: CONFIG_Wn. -/
def errorCode (e : ConfigError) : Nat := Abnormal.code (.config e.check)

/-- The code an output event stands for: WATCHDOG for a WatchdogReset, which records its processor; none for the
others ("no other condition of the block is abnormal"). -/
def OutEvent.code : OutEvent → Option Nat
  | .watchdogReset _ => some (Abnormal.code .watchdog)
  | .coinPulse _ => none
  | .chipIrqPulse _ _ => none
  | .resetPulse _ => none

/-- The codes a refusal stands for: REFUSED for a reserved word, which it records; CONFIG_Wn for each failed check. The
model's own refusals stand for no abnormal event of the block. -/
def Refusal.codes : Refusal → List Nat
  | .reserved _ => [Abnormal.code .refused]
  | .configuration es => es.map errorCode
  | _ => []

end Sys2Proof.Machine
end

