-- ==== Sys2Proof/Machine/Operands.lean ====
section
/-! DEFINITION. Machine/Operands: the operand forms of the block, which are its address decoder (30_encoding.md
R75-R82, 40_decoder.md R100): when a window matches, the offset, the port index, the key level, and the target a
bus address resolves to; and the nibble a read port forwards (R134). -/

namespace Sys2Proof

/-- `dir` is in `w.dirs` (R75). -/
def Window.takes (w : Window) : Dir → Bool
  | .r => w.rd
  | .w => w.wr

/-- Window `w` matches the access (R76). -/
def Window.hits (w : Window) (dir : Dir) (a : Addr) : Bool := w.takes dir && (a &&& w.mask == w.value)

/-- The offset of a matched access, an unsigned number (R77). -/
def Window.offset (w : Window) (a : Addr) : Nat := (a &&& w.offmask).toNat

end Sys2Proof

namespace Sys2Proof.Machine

/-- The targets of a decoded access (R39, R82). -/
inductive Target
  | shared (r : Region) (off : Nat)
  | rom (b : Proc) (off : Nat)
  | io (slot : Slot) (idx : Nat)
  | intCtl (q : Proc) (lvl : Bool)
  | subRst (lvl : Bool)
  | ioRst (lvl : Bool)
  | watchdog (q : Proc)
  | unmapped
  deriving DecidableEq, Repr

/-- The port index (R78): `off[1:0]` for a read, `off[0]` for a write. -/
def portIndex (dir : Dir) (off : Nat) : Nat :=
  match dir with
  | .r => off % 4
  | .w => off % 2

/-- `lvl = (A[w.key] = w.act)` (R79): true enables (IntCtl) or releases (SubRst, IoRst). -/
def keyLevel (key : Fin 16) (act : Bool) (a : Addr) : Bool := a.getLsbD key.val == act

/-- The target a matched window yields (R82, R100). -/
def windowTarget (w : Window) (dir : Dir) (a : Addr) : Target :=
  match w.kind with
  | .shared r => .shared r (w.offset a)
  | .rom b => .rom b (w.offset a)
  | .io slot => .io slot (portIndex dir (w.offset a))
  | .intCtl q key act => .intCtl q (keyLevel key act a)
  | .subRst key act => .subRst (keyLevel key act a)
  | .ioRst key act => .ioRst (keyLevel key act a)
  | .watchdog q => .watchdog q

/-- The first matching window in table order wins; `Unmapped` when none matches (R81, R100, R102). -/
def decodeWindows : List Window → Dir → Addr → Target
  | [], _, _ => .unmapped
  | w :: ws, dir, a => if w.hits dir a then windowTarget w dir a else decodeWindows ws dir a

/-- `Decode(p, dir, A)` (R100). It reads only the configuration and its three arguments (R101). -/
def decodeAddr (c : Config) (p : Proc) (dir : Dir) (a : Addr) : Target :=
  decodeWindows (c.decode.get p) dir a

/-- One nibble of a byte, zero-extended to 8 bits and not inverted (R134, D10). -/
def nibble (half : Half) (b : Byte) : Byte :=
  match half with
  | .lo => (b.extractLsb' 0 4).setWidth 8
  | .hi => (b.extractLsb' 4 4).setWidth 8

/-- Read port `idx` of a kind's bindings (R132). -/
def PortBinds.port (b : PortBinds) (idx : Nat) : Option Bind :=
  match idx with
  | 0 => b.r0
  | 1 => b.r1
  | 2 => b.r2
  | 3 => b.r3
  | _ => none

/-- READ_BIND: what a read port of a chip kind forwards; every port of Unmodelled is unbound (R132). -/
def readBind (c : Config) (k : ChipKind) (idx : Nat) : Option Bind :=
  match k with
  | .playerCoin => PortBinds.port c.bindPlayerCoin idx
  | .dipSwitch => PortBinds.port c.bindDipSwitch idx
  | .unmodelled => none

/-- Bit `i` of a data byte (R10). -/
def dataBit (d : Byte) (i : Nat) : Bool := d.getLsbD i

end Sys2Proof.Machine
end

