-- ==== Sys2Proof/Machine/Flags.lean ====
section
/-! DEFINITION. Machine/Flags: the block has no status flags or condition codes (R22). What it has are one-bit
signals derived from its latches: sound-enable, the reset lines, the chip resets; and the views it exports to the
renderer and the sound subsystem. -/

namespace Sys2Proof.Machine

/-- `sound_enable = ~subrst`, always (R27, C8). -/
def soundEnable (s : State) : Bool := !s.subrst

/-- The reset line into each processor: P0 has no reset level, P1 and P2 follow `subrst` (R28). -/
def resetLine (s : State) : Proc → Bool
  | .p0 => false
  | .p1 => s.subrst
  | .p2 => s.subrst

/-- The reset level of each chip slot: slots 0 and 1 follow `iorst`, slot 2 is never held (R33). -/
def chipReset (s : State) : Slot → Bool
  | .s0 => s.iorst
  | .s1 => s.iorst
  | .s2 => false

/-- What the renderer reads once per frame, in the state right after that frame's TICK step (R57). -/
def frameSnapshot (s : State) : Memory × Memory × Memory := (s.mem.vram, s.mem.wramA, s.mem.wramB)

/-- What the sound subsystem reads: the SND bytes while `sound_enable` is 1, silence otherwise (R58). -/
def soundView (s : State) : Option Memory := if soundEnable s then some s.mem.snd else none

end Sys2Proof.Machine
end

