-- ==== Sys2Proof/Machine/Ops.lean ====
section
/-! DEFINITION. Machine/Ops: the primitives of R11 over the state (bytes of regions and ROMs, the logs, the free
byte, the answer on the read bus) and the two reset procedures (R210, R212). The block takes no exception and has
no return from one (R182, R187, R188): what it has instead is the diagnostic record (R181), the cold-style reset
a watchdog expiry performs (R192) and the system reset. -/

namespace Sys2Proof.Machine

/-! ### Bytes -/

/-- What an offset that a region's list does not hold reads as: 0x00 (R34, R42). -/
def Memory.unlisted : Byte := 0x00#8

/-- The listed byte at offset `a`. -/
def lookup : List Host.Cell → Nat → Option Byte
  | [], _ => none
  | (b, x) :: m, a => if a = b then some x else lookup m a

/-- The byte at offset `a`. -/
def Memory.read (m : Memory) (a : Nat) : Byte := (lookup m a).getD Memory.unlisted

/-- The cell `(a, v)` in front of `m`, or nothing where `v` is what an unlisted offset reads as. -/
def Memory.cell (a : Nat) (v : Byte) (m : Memory) : Memory := if v = Memory.unlisted then m else (a, v) :: m

/-- The byte at offset `a` set to `v`, the canonical form kept. -/
def Memory.write : Memory → Nat → Byte → Memory
  | [], a, v => Memory.cell a v []
  | (b, x) :: m, a, v =>
    if a < b then Memory.cell a v ((b, x) :: m)
    else if a = b then Memory.cell a v m
    else (b, x) :: Memory.write m a v

/-- Offsets strictly rising from `lo` on, and no listed byte that an unlisted offset would read as. -/
def Memory.wfFrom : Nat → Memory → Bool
  | _, [] => true
  | lo, (a, x) :: m => decide (lo ≤ a) && x != Memory.unlisted && Memory.wfFrom (a + 1) m

/-- The canonical form. -/
def Memory.wf (m : Memory) : Bool := Memory.wfFrom 0 m

/-- Every listed offset is below `n`. -/
def Memory.below (m : Memory) (n : Nat) : Bool := m.all (fun c => decide (c.1 < n))

/-- `RegionRead(r, off)` (R52). -/
def regionRead (s : State) (r : Region) (off : Nat) : Byte := Memory.read (s.mem.get r) off

/-- `RegionWrite(r, off, v)` (R52): sets the byte and changes nothing else. -/
def regionWrite (s : State) (r : Region) (off : Nat) (v : Byte) : State :=
  { s with mem := s.mem.set r (Memory.write (s.mem.get r) off v) }

/-- `RomRead(b, off)` (R11): the byte the configuration lists, else the free byte of that image (log entry 6). -/
def romRead (c : Config) (b : Proc) (off : Nat) : Byte :=
  (lookup (c.rom.get b).cells off).getD (Config.romByte b off)

/-- The bytes of a sprite sub-range: a view of its region, no store of its own (R35). -/
def spriteBytes (s : State) (x : SpriteRange) : List Byte :=
  (List.range x.len).map (fun n => regionRead s x.region (x.base + n))

/-! ### Logs, the free byte, the answer -/

/-- `emit E` (R11, R36). -/
def emit (e : OutEvent) (s : State) : State := { s with out := s.out ++ [e] }

/-- `if b: emit E`. -/
def emitIf (b : Bool) (e : OutEvent) (s : State) : State := { s with out := if b then s.out ++ [e] else s.out }

/-- `raise Diag(code, p, dir, A, D)` (R181). -/
def raiseDiag (d : Diag) (s : State) : State := { s with diag := s.diag ++ [d] }

/-- `return v` to processor `p` (R11). -/
def answer (p : Proc) (v : Byte) (s : State) : State := { s with reply := .data p v }

/-- `return draw()` to processor `p`: the next free byte (R11). -/
def answerDraw (p : Proc) (s : State) : State :=
  { s with reply := .data p (Config.freeByte s.draws), draws := s.draws + 1 }

/-- A held processor has no step: nothing of the block changes (R43, R106; log entry 4). -/
def notAdmitted (p : Proc) (s : State) : State := { s with reply := .held p }

/-! ### Watchdog counters -/

/-- `wd[q] <- 0` (R156). -/
def serviceWatchdog (q : Proc) (s : State) : State := { s with wd := s.wd.set q 0 }

/-- `wd[q] <- 0` if q is in WD_HAS. -/
def zeroWatchdog (q : Proc) (s : State) : State :=
  { s with wd := if s.cfg.wdHas.get q then s.wd.set q 0 else s.wd }

/-- `for q in WD_HAS: s.wd[q] <- 0` (R210, R212). -/
def zeroWatchdogs (s : State) : State := zeroWatchdog .p2 (zeroWatchdog .p1 (zeroWatchdog .p0 s))

/-! ### The resets -/

/-- `for q in (0,1,2): emit ResetPulse(q)` (R210, R212). -/
def resetPulses (s : State) : State := emit (.resetPulse .p2) (emit (.resetPulse .p1) (emit (.resetPulse .p0) s))

/-- `ColdInit(s)` (R210). The inputs and both logs are kept. -/
def coldInit (s : State) : State :=
  resetPulses (zeroWatchdogs
    { s with
      ie := ⟨false, false, false⟩
      irq := ⟨false, false, false⟩
      subrst := true
      iorst := s.cfg.ioRstPowerOn
      lamp0 := false
      lamp1 := false
      lockout := false
      mem := ⟨[], [], [], []⟩ })

/-- `SysReset(s)` (R212): P1's latch and line are cleared, those of P0 and P2 are kept (C4). -/
def sysReset (s : State) : State :=
  resetPulses (zeroWatchdogs
    { s with
      ie := s.ie.set .p1 false
      irq := s.irq.set .p1 false
      subrst := s.cfg.sysResetSubRst || s.subrst
      iorst := s.cfg.sysResetIoRst || s.iorst })

/-- The state an instruction runs in: its word is taken from the front of the schedule and the read bus is idle. -/
def taken (s : State) (rest : List TxWord) : State := { s with pending := rest, reply := .none }

end Sys2Proof.Machine
end

