-- ==== Sys2Proof/Machine/Rules.lean ====
section
/-! DEFINITION. Machine/Rules: the transaction rules (41_shared_rom.md, 42_io_chip.md, 43_control.md), each once,
and the dispatch of a processor transaction to its rule through the address decoder (R106). -/

namespace Sys2Proof.Machine

/-! ### Shared regions and ROM -/

/-- SHARED READ (R120). -/
def sharedRead (p : Proc) (r : Region) (off : Nat) (s : State) : Result :=
  if off < s.cfg.regionSize.get r then .next (answer p (regionRead s r off) s) else .fault (.regionOffset r off)

/-- SHARED WRITE (R121). -/
def sharedWrite (r : Region) (off : Nat) (d : Byte) (s : State) : Result :=
  if off < s.cfg.regionSize.get r then .next (regionWrite s r off d) else .fault (.regionOffset r off)

/-- ROM READ (R122). -/
def romAccess (p b : Proc) (off : Nat) (s : State) : Result :=
  if off < (s.cfg.rom.get b).size then .next (answer p (romRead s.cfg b off) s) else .fault (.romOffset b off)

/-! ### The I/O chips -/

/-- The byte an I/O read returns (R135-R138). -/
def ioReadValue (s : State) (slot : Slot) (idx : Nat) : Byte :=
  if slot = .s2 then s.cfg.thirdSlotRead
  else if chipReset s slot then s.cfg.quiescentRead
  else
    match readBind s.cfg (s.cfg.kinds.get slot) idx with
    | none => s.cfg.unboundRead
    | some b => nibble b.half (s.inp.get b.group)

/-- IO READ (R135). -/
def ioRead (p : Proc) (slot : Slot) (idx : Nat) (s : State) : State := answer p (ioReadValue s slot idx) s

/-- PlayerCoin WRITE PORT 0 (R140): lamps, lockout, and a coin pulse when D[3] is clear. -/
def coinPort0 (d : Byte) (s : State) : State :=
  emitIf (!dataBit d 3) (.coinPulse 0)
    { s with lamp0 := dataBit d 0, lamp1 := dataBit d 1, lockout := dataBit d 2 }

/-- PlayerCoin WRITE PORT 1 (R141): a coin pulse when D[COIN1_BIT] is clear. -/
def coinPort1 (d : Byte) (s : State) : State :=
  emitIf (!dataBit d s.cfg.coin1Bit.val) (.coinPulse 1) s

/-- IO WRITE (R139): swallowed by the third slot, by a chip held in reset and by an unbound port (R138, R142). -/
def ioWrite (slot : Slot) (idx : Nat) (d : Byte) (s : State) : State :=
  if slot = .s2 then s
  else if chipReset s slot then s
  else
    match s.cfg.kinds.get slot with
    | .playerCoin => if idx = 0 then coinPort0 d s else coinPort1 d s
    | .dipSwitch => s
    | .unmodelled => s

/-! ### Control windows -/

/-- INTCTL WRITE (R150): disabling clears the pending line at once. -/
def intCtlWrite (q : Proc) (lvl : Bool) (s : State) : State :=
  { s with
    ie := s.ie.set q lvl
    irq := if lvl then s.irq else s.irq.set q false }

/-- SUBRST WRITE (R152): release, or assert and zero the secondaries' watchdog counters. -/
def subRstWrite (lvl : Bool) (s : State) : State :=
  if lvl then { s with subrst := false }
  else zeroWatchdog .p2 (zeroWatchdog .p1 { s with subrst := true })

/-- IORST WRITE (R154). -/
def ioRstWrite (lvl : Bool) (s : State) : State := { s with iorst := !lvl }

/-- WATCHDOG ACCESS (R156): services the counter; a read returns a free byte. -/
def watchdogAccess (p : Proc) (dir : Dir) (q : Proc) (s : State) : Result :=
  if s.cfg.wdHas.get q then
    match dir with
    | .r => .next (answerDraw p (serviceWatchdog q s))
    | .w => .next (serviceWatchdog q s)
  else .fault (.noWatchdog q)

/-- UNMAPPED ACCESS (R158): a diagnostic with the code of UNMAPPED (R180); a read returns a free byte. -/
def unmappedAccess (p : Proc) (dir : Dir) (a : Addr) (d : Byte) (s : State) : State :=
  match dir with
  | .r => answerDraw p (raiseDiag ⟨Abnormal.code .unmapped, p, .r, a, d⟩ s)
  | .w => raiseDiag ⟨Abnormal.code .unmapped, p, .w, a, d⟩ s

/-! ### The processor step -/

/-- The rule of a target and a direction (the table of R106). -/
def targetRule (p : Proc) (dir : Dir) (a : Addr) (d : Byte) (t : Target) (s : State) : Result :=
  match t, dir with
  | .shared r off, .r => sharedRead p r off s
  | .shared r off, .w => sharedWrite r off d s
  | .rom b off, .r => romAccess p b off s
  | .io slot idx, .r => .next (ioRead p slot idx s)
  | .io slot idx, .w => .next (ioWrite slot idx d s)
  | .intCtl q lvl, .w => .next (intCtlWrite q lvl s)
  | .subRst lvl, .w => .next (subRstWrite lvl s)
  | .ioRst lvl, .w => .next (ioRstWrite lvl s)
  | .watchdog q, _ => watchdogAccess p dir q s
  | .unmapped, _ => .next (unmappedAccess p dir a d s)
  | .rom _ _, .w => .fault (.noTransactionRule p dir a)
  | .intCtl _ _, .r => .fault (.noTransactionRule p dir a)
  | .subRst _, .r => .fault (.noTransactionRule p dir a)
  | .ioRst _, .r => .fault (.noTransactionRule p dir a)

/-- `ProcStep(s, p, dir, A, D)` (R106): no step while the processor is held, else the rule of the decoded target. -/
def procStep (p : Proc) (dir : Dir) (a : Addr) (d : Byte) (s : State) : Result :=
  if resetLine s p then .next (notAdmitted p s)
  else targetRule p dir a d (decodeAddr s.cfg p dir a) s

/-- A read: its data field carries no meaning and stands as the canonical 0x00 (R71; log entry 8). -/
def busRead (p : Proc) (a : Addr) (s : State) : Result := procStep p .r a 0x00#8 s

/-- A write of one byte. -/
def busWrite (p : Proc) (a : Addr) (d : Byte) (s : State) : Result := procStep p .w a d s

end Sys2Proof.Machine
end

