-- ==== Sys2Proof/Machine/Control.lean ====
section
/-! DEFINITION. Machine/Control: the rows of the control windows (R150, R152, R154). The data byte is carried and never read (R160). -/

namespace Sys2Proof.Machine

/-- P0.WR.INTCTL0: under REFCFG window W0.8, addresses with A & 0xF000 = 0x7000, target IntCtl(P0, addr[11] == 0) (R150). -/
def execP0WrIntctl0 (low : BitVec 12) (d : Byte) (s : State) : Result := busWrite .p0 (0x7#4 ++ low) d s

/-- P0.WR.SUBRST: under REFCFG window W0.10, addresses with A & 0xF000 = 0x8000, target SubRst(addr[11] == 0) (R152). -/
def execP0WrSubrst (low : BitVec 12) (d : Byte) (s : State) : Result := busWrite .p0 (0x8#4 ++ low) d s

/-- P0.WR.IORST: under REFCFG window W0.11, addresses with A & 0xF000 = 0x9000, target IoRst(addr[11] == 0) (R154). -/
def execP0WrIorst (low : BitVec 12) (d : Byte) (s : State) : Result := busWrite .p0 (0x9#4 ++ low) d s

/-- P1.WR.INTCTL1: under REFCFG window W1.4, addresses with A & 0xF000 = 0x6000, target IntCtl(P1, addr[0] == 1) (R150). -/
def execP1WrIntctl1 (low : BitVec 12) (d : Byte) (s : State) : Result := busWrite .p1 (0x6#4 ++ low) d s

/-- P2.WR.INTCTL2: under REFCFG window W2.3, addresses with A & 0xC000 = 0x4000, target IntCtl(P2, addr[13] == 0) (R150). -/
def execP2WrIntctl2 (low : BitVec 14) (d : Byte) (s : State) : Result := busWrite .p2 (0x1#2 ++ low) d s

end Sys2Proof.Machine
end

