-- ==== Sys2Proof/Machine/Events.lean ====
section
/-! DEFINITION. Machine/Events: the system events (44_events.md) and the refusal of a reserved word (R73). -/

namespace Sys2Proof.Machine

/-- Step 1 of TICK: each processor's line, gated by its own latch (R170). -/
def frameInterrupts (s : State) : State :=
  { s with irq := ⟨s.irq.p0 || s.ie.p0, s.irq.p1 || s.ie.p1, s.irq.p2 || s.ie.p2⟩ }

/-- `pulse_interrupt(slot)` (R143): ignored while the chips are held in reset. -/
def pulseInterrupt (slot : Slot) (q : Proc) (s : State) : State :=
  emitIf (!s.iorst) (.chipIrqPulse slot q) s

/-- Step 2 of TICK: both modelled chips pulse (R170). -/
def chipPulses (s : State) : State :=
  pulseInterrupt .s1 s.cfg.chipIrqRoute1 (pulseInterrupt .s0 s.cfg.chipIrqRoute0 s)

/-- A processor whose watchdog counts at a TICK: one that has a watchdog and is not held (R170). -/
def counts (s : State) (q : Proc) : Bool := s.cfg.wdHas.get q && !resetLine s q

/-- One watchdog counter advances (R170). -/
def countWatchdog (q : Proc) (s : State) : State :=
  { s with wd := if counts s q then s.wd.set q (s.wd.get q + 1) else s.wd }

/-- Every running watchdog counter advances. -/
def countWatchdogs (s : State) : State := countWatchdog .p2 (countWatchdog .p1 (countWatchdog .p0 s))

/-- A counter that has reached WD_LIMIT (R170). -/
def hasExpired (s : State) (q : Proc) : Bool := counts s q && decide (s.cfg.wdLimit ≤ s.wd.get q)

/-- Step 3 of TICK after the counting: if any expired, report each in ascending order and perform one ColdInit. -/
def expireWatchdogs (s : State) : State :=
  if hasExpired s .p0 || hasExpired s .p1 || hasExpired s .p2 then
    coldInit (emitIf (hasExpired s .p2) (.watchdogReset .p2) (emitIf (hasExpired s .p1) (.watchdogReset .p1)
      (emitIf (hasExpired s .p0) (.watchdogReset .p0) s)))
  else s

/-- TICK (R170): frame interrupts, chip pulses, watchdogs, in one atomic step. -/
def tick (s : State) : State := expireWatchdogs (countWatchdogs (chipPulses (frameInterrupts s)))

/-- SETIN(g): `s.in[g] <- b` (R172). -/
def setInput (g : Group) (b : Byte) (s : State) : State := { s with inp := s.inp.set g b }

/-- EV.TICK (R170). -/
def execEvTick (s : State) : Result := .next (tick s)

/-- EV.POWERON (R174). -/
def execEvPoweron (s : State) : Result := .next (coldInit s)

/-- EV.SYSRESET (R175). -/
def execEvSysreset (s : State) : Result := .next (sysReset s)

/-- EV.SETIN.JOY (R172). -/
def execEvSetinJoy (b : Byte) (s : State) : Result := .next (setInput .joy b s)

/-- EV.SETIN.BTN (R172). -/
def execEvSetinBtn (b : Byte) (s : State) : Result := .next (setInput .btn b s)

/-- EV.SETIN.DSWA (R172). -/
def execEvSetinDswa (b : Byte) (s : State) : Result := .next (setInput .dswa b s)

/-- EV.SETIN.DSWB (R172). -/
def execEvSetinDswb (b : Byte) (s : State) : Result := .next (setInput .dswb b s)

/-- EV.RESERVED: "The model refuses a reserved word: it has no meaning and no step" (R73, code 3 of R180). -/
def execEvReserved (rest : BitVec 25) (_s : State) : Result := .refused (.reserved (3#2 ++ rest))

end Sys2Proof.Machine
end

