-- ==== Sys2Proof/Machine/IoChip.lean ====
section
/-! DEFINITION. Machine/IoChip: the rows of the I/O chip windows (R135-R142). -/

namespace Sys2Proof.Machine

/-- P0.RD.IO0: under REFCFG window W0.5, addresses with A & 0xFFF0 = 0x6800, target Io(slot 0, addr[1:0]) (R135). -/
def execP0RdIo0 (low : BitVec 4) (s : State) : Result := busRead .p0 (0x680#12 ++ low) s

/-- P0.RD.IO1: under REFCFG window W0.6, addresses with A & 0xFFF0 = 0x6810, target Io(slot 1, addr[1:0]) (R135). -/
def execP0RdIo1 (low : BitVec 4) (s : State) : Result := busRead .p0 (0x681#12 ++ low) s

/-- P0.RD.IO2: under REFCFG window W0.7, addresses with A & 0xFFF0 = 0x6820, target Io(slot 2, addr[1:0]) (R138). -/
def execP0RdIo2 (low : BitVec 4) (s : State) : Result := busRead .p0 (0x682#12 ++ low) s

/-- P0.WR.IO0: under REFCFG window W0.5, addresses with A & 0xFFF0 = 0x6800, target Io(slot 0, addr[0]) (R139). -/
def execP0WrIo0 (low : BitVec 4) (d : Byte) (s : State) : Result := busWrite .p0 (0x680#12 ++ low) d s

/-- P0.WR.IO1: under REFCFG window W0.6, addresses with A & 0xFFF0 = 0x6810, target Io(slot 1, addr[0]) (R139). -/
def execP0WrIo1 (low : BitVec 4) (d : Byte) (s : State) : Result := busWrite .p0 (0x681#12 ++ low) d s

/-- P0.WR.IO2: under REFCFG window W0.7, addresses with A & 0xFFF0 = 0x6820, target Io(slot 2, addr[0]) (R139). -/
def execP0WrIo2 (low : BitVec 4) (d : Byte) (s : State) : Result := busWrite .p0 (0x682#12 ++ low) d s

end Sys2Proof.Machine
end

