-- ==== Sys2Proof/Machine/Rom.lean ====
section
/-! DEFINITION. Machine/Rom: the rows of the ROM windows (R122, R123). -/

namespace Sys2Proof.Machine

/-- P0.RD.ROM: under REFCFG window W0.12, addresses with A & 0x8000 = 0x8000, target Rom(ROM0, addr & 0x7FFF) (R122). -/
def execP0RdRom (low : BitVec 15) (s : State) : Result := busRead .p0 (0x1#1 ++ low) s

/-- P1.RD.ROM: under REFCFG window W1.5, addresses with A & 0xE000 = 0xE000, target Rom(ROM1, addr & 0x1FFF) (R122). -/
def execP1RdRom (low : BitVec 13) (s : State) : Result := busRead .p1 (0x7#3 ++ low) s

/-- P2.RD.ROM: under REFCFG window W2.4, addresses with A & 0xE000 = 0xE000, target Rom(ROM2, addr & 0x1FFF) (R122). -/
def execP2RdRom (low : BitVec 13) (s : State) : Result := busRead .p2 (0x7#3 ++ low) s

end Sys2Proof.Machine
end

