-- ==== Sys2Proof/Machine/Shared.lean ====
section
/-! DEFINITION. Machine/Shared: the rows of the shared-region windows (R120, R121). Each is the bus access at the addresses its row fixes; the
address decoder finds the region and the offset (R100, R106). -/

namespace Sys2Proof.Machine

/-- P0.RD.VRAM: under REFCFG window W0.1, addresses with A & 0xF800 = 0x0000, target Shared(VRAM, addr & 0x07FF) (R120). -/
def execP0RdVram (low : BitVec 11) (s : State) : Result := busRead .p0 (0x00#5 ++ low) s

/-- P0.RD.WRAM_A: under REFCFG window W0.2, addresses with A & 0xF800 = 0x0800, target Shared(WRAM_A, addr & 0x07FF) (R120). -/
def execP0RdWramA (low : BitVec 11) (s : State) : Result := busRead .p0 (0x01#5 ++ low) s

/-- P0.RD.WRAM_B: under REFCFG window W0.3, addresses with A & 0xF800 = 0x1000, target Shared(WRAM_B, addr & 0x07FF) (R120). -/
def execP0RdWramB (low : BitVec 11) (s : State) : Result := busRead .p0 (0x02#5 ++ low) s

/-- P0.RD.SND: under REFCFG window W0.4, addresses with A & 0xF800 = 0x4000, target Shared(SND, addr & 0x03FF) (R120). -/
def execP0RdSnd (low : BitVec 11) (s : State) : Result := busRead .p0 (0x08#5 ++ low) s

/-- P0.WR.VRAM: under REFCFG window W0.1, addresses with A & 0xF800 = 0x0000, target Shared(VRAM, addr & 0x07FF) (R121). -/
def execP0WrVram (low : BitVec 11) (d : Byte) (s : State) : Result := busWrite .p0 (0x00#5 ++ low) d s

/-- P0.WR.WRAM_A: under REFCFG window W0.2, addresses with A & 0xF800 = 0x0800, target Shared(WRAM_A, addr & 0x07FF) (R121). -/
def execP0WrWramA (low : BitVec 11) (d : Byte) (s : State) : Result := busWrite .p0 (0x01#5 ++ low) d s

/-- P0.WR.WRAM_B: under REFCFG window W0.3, addresses with A & 0xF800 = 0x1000, target Shared(WRAM_B, addr & 0x07FF) (R121). -/
def execP0WrWramB (low : BitVec 11) (d : Byte) (s : State) : Result := busWrite .p0 (0x02#5 ++ low) d s

/-- P0.WR.SND: under REFCFG window W0.4, addresses with A & 0xF800 = 0x4000, target Shared(SND, addr & 0x03FF) (R121). -/
def execP0WrSnd (low : BitVec 11) (d : Byte) (s : State) : Result := busWrite .p0 (0x08#5 ++ low) d s

/-- P1.RD.VRAM: under REFCFG window W1.1, addresses with A & 0xF800 = 0x0000, target Shared(VRAM, addr & 0x07FF) (R120). -/
def execP1RdVram (low : BitVec 11) (s : State) : Result := busRead .p1 (0x00#5 ++ low) s

/-- P1.RD.WRAM_A: under REFCFG window W1.2, addresses with A & 0xF800 = 0x0800, target Shared(WRAM_A, addr & 0x07FF) (R120). -/
def execP1RdWramA (low : BitVec 11) (s : State) : Result := busRead .p1 (0x01#5 ++ low) s

/-- P1.RD.WRAM_B: under REFCFG window W1.3, addresses with A & 0xF800 = 0x1000, target Shared(WRAM_B, addr & 0x07FF) (R120). -/
def execP1RdWramB (low : BitVec 11) (s : State) : Result := busRead .p1 (0x02#5 ++ low) s

/-- P1.WR.VRAM: under REFCFG window W1.1, addresses with A & 0xF800 = 0x0000, target Shared(VRAM, addr & 0x07FF) (R121). -/
def execP1WrVram (low : BitVec 11) (d : Byte) (s : State) : Result := busWrite .p1 (0x00#5 ++ low) d s

/-- P1.WR.WRAM_A: under REFCFG window W1.2, addresses with A & 0xF800 = 0x0800, target Shared(WRAM_A, addr & 0x07FF) (R121). -/
def execP1WrWramA (low : BitVec 11) (d : Byte) (s : State) : Result := busWrite .p1 (0x01#5 ++ low) d s

/-- P1.WR.WRAM_B: under REFCFG window W1.3, addresses with A & 0xF800 = 0x1000, target Shared(WRAM_B, addr & 0x07FF) (R121). -/
def execP1WrWramB (low : BitVec 11) (d : Byte) (s : State) : Result := busWrite .p1 (0x02#5 ++ low) d s

/-- P2.RD.SND: under REFCFG window W2.1, addresses with A & 0xFC00 = 0x0000, target Shared(SND, addr & 0x03FF) (R120). -/
def execP2RdSnd (low : BitVec 10) (s : State) : Result := busRead .p2 (0x00#6 ++ low) s

/-- P2.WR.SND: under REFCFG window W2.1, addresses with A & 0xFC00 = 0x0000, target Shared(SND, addr & 0x03FF) (R121). -/
def execP2WrSnd (low : BitVec 10) (d : Byte) (s : State) : Result := busWrite .p2 (0x00#6 ++ low) d s

end Sys2Proof.Machine
end

