-- ==== Sys2Proof/Machine/Unmapped.lean ====
section
/-! DEFINITION. Machine/Unmapped: the fallback rows: an access no window decodes (R158). -/

namespace Sys2Proof.Machine

/-- P0.RD.UNMAPPED: an access of P0 that no window of REFCFG decodes (R158). -/
def execP0RdUnmapped (a : Addr) (s : State) : Result := busRead .p0 a s

/-- P0.WR.UNMAPPED: an access of P0 that no window of REFCFG decodes (R158). -/
def execP0WrUnmapped (a : Addr) (d : Byte) (s : State) : Result := busWrite .p0 a d s

/-- P1.RD.UNMAPPED: an access of P1 that no window of REFCFG decodes (R158). -/
def execP1RdUnmapped (a : Addr) (s : State) : Result := busRead .p1 a s

/-- P1.WR.UNMAPPED: an access of P1 that no window of REFCFG decodes (R158). -/
def execP1WrUnmapped (a : Addr) (d : Byte) (s : State) : Result := busWrite .p1 a d s

/-- P2.RD.UNMAPPED: an access of P2 that no window of REFCFG decodes (R158). -/
def execP2RdUnmapped (a : Addr) (s : State) : Result := busRead .p2 a s

/-- P2.WR.UNMAPPED: an access of P2 that no window of REFCFG decodes (R158). -/
def execP2WrUnmapped (a : Addr) (d : Byte) (s : State) : Result := busWrite .p2 a d s

end Sys2Proof.Machine
end

