-- ==== Sys2Proof/Machine/Watchdog.lean ====
section
/-! DEFINITION. Machine/Watchdog: the rows of the watchdog windows (R156). -/

namespace Sys2Proof.Machine

/-- P0.RD.WDOG: under REFCFG window W0.9, addresses with A & 0xF800 = 0x7800, target Watchdog(P0) (R156). -/
def execP0RdWdog (low : BitVec 11) (s : State) : Result := busRead .p0 (0x0F#5 ++ low) s

/-- P2.RD.WDOG: under REFCFG window W2.2, addresses with A & 0xE000 = 0x2000, target Watchdog(P2) (R156). -/
def execP2RdWdog (low : BitVec 13) (s : State) : Result := busRead .p2 (0x1#3 ++ low) s

/-- P2.WR.WDOG: under REFCFG window W2.2, addresses with A & 0xE000 = 0x2000, target Watchdog(P2) (R156). -/
def execP2WrWdog (low : BitVec 13) (d : Byte) (s : State) : Result := busWrite .p2 (0x1#3 ++ low) d s

end Sys2Proof.Machine
end

