-- ==== Sys2Proof/Machine/Dispatch.lean ====
section
/-! DEFINITION. Machine/Dispatch: the meaning of every instruction, one arm per constructor. -/

namespace Sys2Proof.Machine

def exec (i : Instr) (s : State) : Host.Outcome State Fault Refusal :=
  match i with
  | .p0RdVram low => Sys2Proof.Machine.execP0RdVram low s
  | .p0RdWramA low => Sys2Proof.Machine.execP0RdWramA low s
  | .p0RdWramB low => Sys2Proof.Machine.execP0RdWramB low s
  | .p0RdSnd low => Sys2Proof.Machine.execP0RdSnd low s
  | .p0RdIo0 low => Sys2Proof.Machine.execP0RdIo0 low s
  | .p0RdIo1 low => Sys2Proof.Machine.execP0RdIo1 low s
  | .p0RdIo2 low => Sys2Proof.Machine.execP0RdIo2 low s
  | .p0RdWdog low => Sys2Proof.Machine.execP0RdWdog low s
  | .p0RdRom low => Sys2Proof.Machine.execP0RdRom low s
  | .p0RdUnmapped a => Sys2Proof.Machine.execP0RdUnmapped a s
  | .p0WrVram low d => Sys2Proof.Machine.execP0WrVram low d s
  | .p0WrWramA low d => Sys2Proof.Machine.execP0WrWramA low d s
  | .p0WrWramB low d => Sys2Proof.Machine.execP0WrWramB low d s
  | .p0WrSnd low d => Sys2Proof.Machine.execP0WrSnd low d s
  | .p0WrIo0 low d => Sys2Proof.Machine.execP0WrIo0 low d s
  | .p0WrIo1 low d => Sys2Proof.Machine.execP0WrIo1 low d s
  | .p0WrIo2 low d => Sys2Proof.Machine.execP0WrIo2 low d s
  | .p0WrIntctl0 low d => Sys2Proof.Machine.execP0WrIntctl0 low d s
  | .p0WrSubrst low d => Sys2Proof.Machine.execP0WrSubrst low d s
  | .p0WrIorst low d => Sys2Proof.Machine.execP0WrIorst low d s
  | .p0WrUnmapped a d => Sys2Proof.Machine.execP0WrUnmapped a d s
  | .p1RdVram low => Sys2Proof.Machine.execP1RdVram low s
  | .p1RdWramA low => Sys2Proof.Machine.execP1RdWramA low s
  | .p1RdWramB low => Sys2Proof.Machine.execP1RdWramB low s
  | .p1RdRom low => Sys2Proof.Machine.execP1RdRom low s
  | .p1RdUnmapped a => Sys2Proof.Machine.execP1RdUnmapped a s
  | .p1WrVram low d => Sys2Proof.Machine.execP1WrVram low d s
  | .p1WrWramA low d => Sys2Proof.Machine.execP1WrWramA low d s
  | .p1WrWramB low d => Sys2Proof.Machine.execP1WrWramB low d s
  | .p1WrIntctl1 low d => Sys2Proof.Machine.execP1WrIntctl1 low d s
  | .p1WrUnmapped a d => Sys2Proof.Machine.execP1WrUnmapped a d s
  | .p2RdSnd low => Sys2Proof.Machine.execP2RdSnd low s
  | .p2RdWdog low => Sys2Proof.Machine.execP2RdWdog low s
  | .p2RdRom low => Sys2Proof.Machine.execP2RdRom low s
  | .p2RdUnmapped a => Sys2Proof.Machine.execP2RdUnmapped a s
  | .p2WrSnd low d => Sys2Proof.Machine.execP2WrSnd low d s
  | .p2WrWdog low d => Sys2Proof.Machine.execP2WrWdog low d s
  | .p2WrIntctl2 low d => Sys2Proof.Machine.execP2WrIntctl2 low d s
  | .p2WrUnmapped a d => Sys2Proof.Machine.execP2WrUnmapped a d s
  | .evTick => Sys2Proof.Machine.execEvTick s
  | .evPoweron => Sys2Proof.Machine.execEvPoweron s
  | .evSysreset => Sys2Proof.Machine.execEvSysreset s
  | .evSetinJoy b => Sys2Proof.Machine.execEvSetinJoy b s
  | .evSetinBtn b => Sys2Proof.Machine.execEvSetinBtn b s
  | .evSetinDswa b => Sys2Proof.Machine.execEvSetinDswa b s
  | .evSetinDswb b => Sys2Proof.Machine.execEvSetinDswb b s
  | .evReserved rest => Sys2Proof.Machine.execEvReserved rest s

end Sys2Proof.Machine
end

