-- ==== Sys2Proof/Machine/Setup.lean ====
section
/-! DEFINITION. Machine/Setup: the setup-time checks W1 to W12 of a configuration (R183). A configuration that
fails any is refused before the first step (R37, R180). Some halves of a check hold by the types: a control
window carries its key (W8), a slot is 0, 1 or 2 (W5), a route is a processor (W12); log entry 18. -/

namespace Sys2Proof.Machine

/-- The error of check `n` at a window, unless `ok`. -/
def check (ok : Bool) (n : Nat) (w : Option (Proc × Nat)) : List ConfigError := if ok then [] else [⟨n, w⟩]

/-- `m = 2^k - 1` for some k (W3). -/
def isLowMask (m : Addr) : Bool := m &&& (m + 1) == 0

/-- W1: `w.match & ~w.mask = 0`. -/
def okW1 (w : Window) : Bool := w.value &&& ~~~w.mask == 0

/-- W2: `w.mask & w.offmask = 0`. -/
def okW2 (w : Window) : Bool := w.mask &&& w.offmask == 0

/-- W3: the offset mask is `2^k - 1` and `2^k` is at most the size of the target. -/
def okW3 (c : Config) (w : Window) : Bool :=
  match w.kind with
  | .shared r => isLowMask w.offmask && decide (w.offmask.toNat + 1 ≤ c.regionSize.get r)
  | .rom b => isLowMask w.offmask && decide (w.offmask.toNat + 1 ≤ (c.rom.get b).size)
  | .io _ => w.offmask == 0 || w.offmask == 1 || w.offmask == 3
  | .intCtl _ _ _ => w.offmask == 0
  | .subRst _ _ => w.offmask == 0
  | .ioRst _ _ => w.offmask == 0
  | .watchdog _ => w.offmask == 0

/-- W4: a shared window's processor owns the region (R56). -/
def okW4 (p : Proc) (w : Window) : Bool :=
  match w.kind with
  | .shared r => r.ownedBy p
  | _ => true

/-- W5: a ROM window reaches the processor's own ROM. -/
def okW5 (p : Proc) (w : Window) : Bool :=
  match w.kind with
  | .rom b => b == p
  | _ => true

/-- W6: some direction; reads only for Rom; writes only for IntCtl, SubRst and IoRst. -/
def okW6 (w : Window) : Bool :=
  match w.kind with
  | .rom _ => w.rd && !w.wr
  | .intCtl _ _ _ => w.wr && !w.rd
  | .subRst _ _ => w.wr && !w.rd
  | .ioRst _ _ => w.wr && !w.rd
  | _ => w.rd || w.wr

/-- W7, the window's half: a watchdog window is its processor's own, and the processor has a watchdog. -/
def okW7 (c : Config) (p : Proc) (w : Window) : Bool :=
  match w.kind with
  | .watchdog q => q == p && c.wdHas.get q
  | _ => true

/-- The key bit is neither decoded nor part of the offset. -/
def keyFree (w : Window) (key : Fin 16) : Bool := !w.mask.getLsbD key.val && !w.offmask.getLsbD key.val

/-- W8: both levels of a control window's key bit are reachable. -/
def okW8 (w : Window) : Bool :=
  match w.kind with
  | .intCtl _ key _ => keyFree w key
  | .subRst key _ => keyFree w key
  | .ioRst key _ => keyFree w key
  | _ => true

/-- W9: SubRst and IoRst windows appear only in P0's table. -/
def okW9 (p : Proc) (w : Window) : Bool :=
  match w.kind with
  | .subRst _ _ => p == .p0
  | .ioRst _ _ => p == .p0
  | _ => true

/-- The failed checks of window number `n` of processor `p`'s table. -/
def windowErrors (c : Config) (p : Proc) (n : Nat) (w : Window) : List ConfigError :=
  check (okW1 w) 1 (some (p, n)) ++ check (okW2 w) 2 (some (p, n)) ++ check (okW3 c w) 3 (some (p, n)) ++
  check (okW4 p w) 4 (some (p, n)) ++ check (okW5 p w) 5 (some (p, n)) ++ check (okW6 w) 6 (some (p, n)) ++
  check (okW7 c p w) 7 (some (p, n)) ++ check (okW8 w) 8 (some (p, n)) ++ check (okW9 p w) 9 (some (p, n))

/-- The failed checks of a table, its windows numbered from `n`. -/
def tableErrors (c : Config) (p : Proc) : Nat → List Window → List ConfigError
  | _, [] => []
  | n, w :: ws => windowErrors c p n w ++ tableErrors c p (n + 1) ws

/-- A watchdog window of `q`. -/
def isWatchdogOf (q : Proc) (w : Window) : Bool := w.kind == .watchdog q

/-- W7, the table's half: a processor with a watchdog has a window to service it. -/
def okW7Table (c : Config) (q : Proc) : Bool := !c.wdHas.get q || (c.decode.get q).any (isWatchdogOf q)

/-- W10: REVISION is REV_A or REV_B, and slot 2 is Unmodelled. -/
def okW10 (c : Config) : Bool :=
  (c.kinds.s0 == .playerCoin && c.kinds.s1 == .dipSwitch || c.kinds.s0 == .dipSwitch && c.kinds.s1 == .playerCoin) &&
  c.kinds.s2 == .unmodelled

/-- A sprite sub-range lies inside a region P0 and P1 share (W11). -/
def okSpriteRange (c : Config) (x : SpriteRange) : Bool :=
  x.region.ownedBy .p1 && decide (x.base + x.len ≤ c.regionSize.get x.region)

/-- W11: every region has at least one byte; every sprite sub-range lies inside a P0/P1 region. -/
def okW11 (c : Config) : Bool :=
  decide (1 ≤ c.regionSize.vram) && decide (1 ≤ c.regionSize.wramA) && decide (1 ≤ c.regionSize.wramB) &&
  decide (1 ≤ c.regionSize.snd) &&
  match c.spriteLayout with
  | none => true
  | some l => okSpriteRange c l.first && okSpriteRange c l.second && okSpriteRange c l.third

/-- W12: WD_LIMIT is at least 1. -/
def okW12 (c : Config) : Bool := decide (1 ≤ c.wdLimit)

/-- Every check of R183 the configuration fails. The spec gives no order among them: all are reported. -/
def configErrors (c : Config) : List ConfigError :=
  tableErrors c .p0 0 c.decode.p0 ++ tableErrors c .p1 0 c.decode.p1 ++ tableErrors c .p2 0 c.decode.p2 ++
  check (okW7Table c .p0) 7 none ++ check (okW7Table c .p1) 7 none ++ check (okW7Table c .p2) 7 none ++
  check (okW10 c) 10 none ++ check (okW11 c) 11 none ++ check (okW12 c) 12 none

/-- The configuration passes every check of R183. -/
def accepted (c : Config) : Bool := (configErrors c).isEmpty

end Sys2Proof.Machine
end

