-- ==== Sys2Proof/Machine/Step.lean ====
section
/-! DEFINITION. Machine/Step: one step of the block. The block has no program counter (R21): what it takes next is the
next transaction word of the schedule (R20, R54; log entry 2). -/

namespace Sys2Proof.Machine

/-- One step: a configuration that fails a check of R183 is refused; otherwise the first pending word is taken off
the schedule and its instruction runs. -/
def step (s : State) : Host.Outcome State Fault Refusal :=
  if accepted s.cfg then
    match s.pending with
    | [] => .refused .noTransaction
    | w :: rest => exec (decode w) (taken s rest)
  else .refused (.configuration (configErrors s.cfg))

/-- `s` with the word placed at the front of the schedule. The step of P1 or P2 is admitted only when `subrst = 0`
(R43), so a word of theirs also releases the secondaries: that is what it takes for the very next step to run it
(log entry 12). -/
def State.withFetchWord (s : State) (_nbits w : Nat) : State :=
  let t : TxWord := BitVec.ofNat 27 w
  { s with
    pending := t :: s.pending
    subrst := if agentOf t = 1#2 ∨ agentOf t = 2#2 then false else s.subrst }

end Sys2Proof.Machine
end

