-- ==== Sys2Proof/Machine/Pseudo.lean ====
section
/-! DEFINITION. Machine/Pseudo: the pseudo-transactions under any configuration: they "expand to that configuration's
window addresses" (R88; log entry 19). Their words under REFCFG are `Pseudo.expand` of Decode.lean. -/

namespace Sys2Proof.Machine

/-- The target a pseudo-transaction reaches. -/
def pseudoTarget : Pseudo → Target
  | .ien0 => .intCtl .p0 true
  | .idis0 => .intCtl .p0 false
  | .ien1 => .intCtl .p1 true
  | .idis1 => .intCtl .p1 false
  | .ien2 => .intCtl .p2 true
  | .idis2 => .intCtl .p2 false
  | .subrun => .subRst true
  | .subhold => .subRst false
  | .iorun => .ioRst true
  | .iohold => .ioRst false
  | .wdog0 => .watchdog .p0
  | .wdog2 => .watchdog .p2

/-- The processor the pseudo-transaction names, or P0 for the lines P0 alone drives: its table is searched first. -/
def pseudoProc : Pseudo → Proc
  | .ien1 | .idis1 => .p1
  | .ien2 | .idis2 | .wdog2 => .p2
  | .ien0 | .idis0 | .subrun | .subhold | .iorun | .iohold | .wdog0 => .p0

/-- The line of an access with the data byte 0x00 (R87). -/
def lineOf (p : Proc) (dir : Dir) (a : Addr) : Line :=
  match dir with
  | .r => .rd p a
  | .w => .wr p a 0x00#8

/-- The addresses whose bits in `mask` are those of `value`; the other bits are free. -/
structure Cube where
  mask : Addr
  value : Addr
  deriving DecidableEq, Repr

/-- The address has the fixed bits. -/
def Cube.has (q : Cube) (a : Addr) : Bool := a &&& q.mask == q.value

/-- `q` with bit `i` fixed as well. -/
def Cube.fix (q : Cube) (i : Nat) (b : Bool) : Cube :=
  ⟨q.mask ||| 1#16 <<< i, if b then q.value ||| 1#16 <<< i else q.value &&& ~~~(1#16 <<< i)⟩

/-- No address of `q` has the decoded bits of `v`: some bit fixed in both differs. -/
def Cube.apart (q : Cube) (v : Window) : Bool := (q.value ^^^ v.value) &&& q.mask &&& v.mask != 0#16

/-- The bits that `v` decodes and `q` leaves free, those `v` wants at 1 first. An address of `q` that `v` does not match
differs from `v` in one of them. -/
def Cube.escapes (q : Cube) (v : Window) : List Nat :=
  let bits := (List.range 16).filter fun i => v.mask.getLsbD i && !q.mask.getLsbD i
  bits.filter v.value.getLsbD ++ bits.filter fun i => !v.value.getLsbD i

/-- An address of `q` that none of the windows matches in the direction, the free bits at 0 where that will do. -/
def unshadowed : List Window → Dir → Cube → Option Addr
  | [], _, q => some q.value
  | v :: vs, dir, q =>
    if !v.takes dir || q.apart v then unshadowed vs dir q
    else (q.escapes v).findSome? fun i => unshadowed vs dir (q.fix i (!v.value.getLsbD i))

/-- The addresses of a control window at each level of its key bit, and those of a watchdog window. -/
def windowCubes (w : Window) : List Cube :=
  let all : Cube := ⟨w.mask, w.value⟩
  match w.kind with
  | .intCtl _ key _ => [all.fix key.val false, all.fix key.val true]
  | .subRst key _ => [all.fix key.val false, all.fix key.val true]
  | .ioRst key _ => [all.fix key.val false, all.fix key.val true]
  | .watchdog _ => [all]
  | .shared _ | .rom _ | .io _ => []

/-- One access for each direction and each set of addresses of a window, where the windows before it leave one (R81). -/
def windowAccesses (before : List Window) (w : Window) : List (Dir × Addr) :=
  (windowCubes w).flatMap fun q => [Dir.r, Dir.w].filterMap fun dir => (unshadowed before dir q).map (Prod.mk dir)

/-- The accesses of a table's windows, after the windows `before`. -/
def tableAccesses : List Window → List Window → List (Dir × Addr)
  | _, [] => []
  | before, w :: ws => windowAccesses before w ++ tableAccesses (before ++ [w]) ws

/-- The first of these accesses by `p` at which Decode gives the target. -/
def lineTo (c : Config) (t : Target) (p : Proc) : Option Line :=
  (tableAccesses [] (c.decode.get p)).findSome? fun x =>
    if decodeAddr c p x.1 x.2 = t then some (lineOf p x.1 x.2) else none

/-- The expansion of a pseudo-transaction under a configuration; under an accepted one, none only where no address of any
table decodes to the target. -/
def expandIn (c : Config) (x : Pseudo) : Option Line :=
  [pseudoProc x, .p0, .p1, .p2].findSome? (lineTo c (pseudoTarget x))

end Sys2Proof.Machine
end

