-- ==== Sys2Proof/Machine/Rows.lean ====
section
/-! DEFINITION. Machine/Rows: the rows of the opcode table regenerated from a configuration's DECODE ("a model that takes
another configuration regenerates the rows from its DECODE in the same way", R89). Under REFCFG they are the rows of
opcode_table.json; log entry 20. -/

namespace Sys2Proof.Machine

/-- The processor's part of a mnemonic. -/
def procName : Proc → String
  | .p0 => "P0"
  | .p1 => "P1"
  | .p2 => "P2"

/-- The direction's part of a mnemonic. -/
def dirName : Dir → String
  | .r => ".RD."
  | .w => ".WR."

/-- The window's part of a mnemonic. -/
def kindName : WindowKind → String
  | .shared .vram => "VRAM"
  | .shared .wramA => "WRAM_A"
  | .shared .wramB => "WRAM_B"
  | .shared .snd => "SND"
  | .rom _ => "ROM"
  | .io .s0 => "IO0"
  | .io .s1 => "IO1"
  | .io .s2 => "IO2"
  | .intCtl .p0 _ _ => "INTCTL0"
  | .intCtl .p1 _ _ => "INTCTL1"
  | .intCtl .p2 _ _ => "INTCTL2"
  | .subRst _ _ => "SUBRST"
  | .ioRst _ _ => "IORST"
  | .watchdog _ => "WDOG"

/-- The mnemonic of a row of a processor and a direction. -/
def rowName (p : Proc) (dir : Dir) (name : String) : String := procName p ++ dirName dir ++ name

/-- The row of a window of `p`'s table for a direction: agent, dir and the window's decoded address bits. -/
def windowRow (p : Proc) (dir : Dir) (w : Window) : OpRow :=
  ⟨rowName p dir (kindName w.kind), pack p.agent dir.bit w.value 0x00#8, pack 3#2 1#1 w.mask 0x00#8, false⟩

/-- The Unmapped fallback row of a processor and a direction: agent and dir alone. -/
def unmappedRow (p : Proc) (dir : Dir) : OpRow :=
  ⟨rowName p dir "UNMAPPED", pack p.agent dir.bit 0x0000#16 0x00#8, pack 3#2 1#1 0x0000#16 0x00#8, true⟩

/-- The rows of a processor and a direction: one for each window that decodes the direction, in table order (R81), then
the fallback row. -/
def procRows (c : Config) (p : Proc) (dir : Dir) : List OpRow :=
  ((c.decode.get p).filter (·.takes dir)).map (windowRow p dir) ++ [unmappedRow p dir]

/-- The rows of the system events and the reserved fallback row, which no configuration changes (R72, R73). -/
def eventRows : List OpRow :=
  [Instr.row .evTick, Instr.row .evPoweron, Instr.row .evSysreset, Instr.row (.evSetinJoy 0), Instr.row (.evSetinBtn 0),
   Instr.row (.evSetinDswa 0), Instr.row (.evSetinDswb 0), Instr.row (.evReserved 0)]

/-- Every row of the configuration's table, each fallback row after the rows it gives way to. -/
def rowsOf (c : Config) : List OpRow :=
  procRows c .p0 .r ++ procRows c .p0 .w ++ procRows c .p1 .r ++ procRows c .p1 .w ++ procRows c .p2 .r ++
  procRows c .p2 .w ++ eventRows

/-- The row of a word under a configuration: the first that matches. Every word matches its agent's fallback row. -/
def rowIn (c : Config) (w : TxWord) : OpRow := ((rowsOf c).find? (·.hits w)).getD (Instr.row (.evReserved 0))

end Sys2Proof.Machine
end

