-- ==== Sys2Proof/Safety.lean ====
section
/-! DEFINITION. Safety: what a state between steps looks like on this hardware, in the terms claims use. -/

namespace Sys2Proof.Machine

/-- "irq[p] = 1 implies ie[p] = 1" (R25). -/
def IrqOnlyWhenEnabled (s : State) : Prop := ∀ p, s.irq.get p = true → s.ie.get p = true

/-- The range of a watchdog counter is 0 to WD_LIMIT - 1 in every state between steps (R30); the entry of a processor
without a watchdog is no counter and stays 0 (log entry 13). -/
def WatchdogsInRange (s : State) : Prop :=
  ∀ p, if s.cfg.wdHas.get p = true then s.wd.get p < s.cfg.wdLimit else s.wd.get p = 0

/-- While P1 and P2 are held, wd[1] and wd[2] are 0 (R196). -/
def HeldWatchdogsZero (s : State) : Prop := s.subrst = true → s.wd.p1 = 0 ∧ s.wd.p2 = 0

/-- Each region's list is canonical and lists only offsets of the region (R34, R52). -/
def RegionsCanonical (s : State) : Prop :=
  ∀ r, Memory.wf (s.mem.get r) = true ∧ Memory.below (s.mem.get r) (s.cfg.regionSize.get r) = true

/-- The invariant of the block: what holds at power-on and is kept by every step. -/
structure Inv (s : State) : Prop where
  config : accepted s.cfg = true
  irq : IrqOnlyWhenEnabled s
  watchdogs : WatchdogsInRange s
  held : HeldWatchdogsZero s
  regions : RegionsCanonical s

/-- A run that stayed in contract: no diagnostic was recorded (R158, R181: "diag is empty" is the premise of a claim about
a run). -/
def InContract (s : State) : Prop := s.diag = []

/-- The decode tables are REFCFG's and the configuration passes the checks of R183; every other parameter is free. -/
def OnRefMap (s : State) : Prop := s.cfg.decode = refDecode ∧ accepted s.cfg = true

/-- A word that R73 reserves: dir = 1, or a code R72 does not list, under agent 3. -/
def isReservedWord (w : TxWord) : Bool := agentOf w == 3#2 && isReservedRest (w.extractLsb' 0 25)

end Sys2Proof.Machine
end

