-- ==== Sys2Proof/Certificates/Slice0/Obligations.lean ====
section
/-! DEFINITION. Certificates/Slice0/Obligations: the statements for the provers. -/

namespace Sys2Proof.Claims

open Sys2Proof.Machine

/-! ### Words the statements use -/

/-- The canonical word of the same row and operands: the data of a read and the argument of TICK, POWERON and SYSRESET
are 0 (R71, R72). -/
def canonical (w : TxWord) : TxWord :=
  if agentOf w = 3#2 then
    if dirOf w = 0#1 ∧ (addrOf w = 0x0000#16 ∨ addrOf w = 0x0001#16 ∨ addrOf w = 0x0002#16) then
      pack 3#2 0#1 (addrOf w) 0x00#8
    else w
  else if dirOf w = 0#1 then pack (agentOf w) 0#1 (addrOf w) 0x00#8
  else w

/-- The key bit of a control window as a mask (R79). -/
def keyMask (w : Window) : Addr :=
  match w.kind with
  | .intCtl _ key _ => 1#16 <<< key.val
  | .subRst key _ => 1#16 <<< key.val
  | .ioRst key _ => 1#16 <<< key.val
  | _ => 0#16

/-- `i` is the access `x` of a processor that is not held, and its address decodes to `t` (R106). -/
def Reaches (s : State) (i : Instr) (x : Access) (t : Target) : Prop :=
  i.access = some x ∧ resetLine s x.proc = false ∧ decodeAddr s.cfg x.proc x.dir x.addr = t

/-- A TICK from `s` finds an expired watchdog: a running processor's counter reaches WD_LIMIT (R170). -/
def WatchdogExpires (s : State) : Prop :=
  ∃ q, s.cfg.wdHas.get q = true ∧ resetLine s q = false ∧ s.cfg.wdLimit ≤ s.wd.get q + 1

/-- The counters of WD_HAS zeroed (R210, R212). -/
def zeroedWd (s : State) : PerProc Nat :=
  ⟨if s.cfg.wdHas.p0 then 0 else s.wd.p0, if s.cfg.wdHas.p1 then 0 else s.wd.p1, if s.cfg.wdHas.p2 then 0 else s.wd.p2⟩

/-- The three reset pulses of a cold-style or system reset. -/
def resetEvents : List OutEvent := [.resetPulse .p0, .resetPulse .p1, .resetPulse .p2]

/-- `s` with every field at its power-on value, the inputs and the diagnostics kept, and `l` and the three reset pulses
appended to the output log (R210). -/
def coldReset (s : State) (l : List OutEvent) : State :=
  { s with
    ie := ⟨false, false, false⟩, irq := ⟨false, false, false⟩, subrst := true, iorst := s.cfg.ioRstPowerOn
    wd := zeroedWd s, lamp0 := false, lamp1 := false, lockout := false, mem := ⟨[], [], [], []⟩
    out := s.out ++ l ++ resetEvents }

/-- From `s` to `t` the byte `off` of region `r` became `d`, and nothing else changed. -/
def StoresByte (s t : State) (r : Region) (off : Nat) (d : Byte) : Prop :=
  t = { s with mem := t.mem } ∧ ∀ q c, regionRead t q c = if q = r ∧ c = off then d else regionRead s q c

/-- What a write of latch `ie[q]` leaves (R150). -/
def latched (s : State) (q : Proc) (lvl : Bool) : State :=
  if lvl then { s with ie := s.ie.set q true } else { s with ie := s.ie.set q false, irq := s.irq.set q false }

/-- What a secondary-reset write leaves (R152). -/
def subReset (s : State) (lvl : Bool) : State :=
  if lvl then { s with subrst := false }
  else { s with
    subrst := true
    wd := ⟨s.wd.p0, if s.cfg.wdHas.p1 then 0 else s.wd.p1, if s.cfg.wdHas.p2 then 0 else s.wd.p2⟩ }

/-- What an unmapped access of a read leaves, with the next free byte on the bus (R158). -/
def unmappedRead (s : State) (p : Proc) (a : Addr) : State :=
  { s with
    diag := s.diag ++ [⟨1, p, .r, a, 0x00#8⟩], reply := .data p (Config.freeByte s.draws), draws := s.draws + 1 }

/-- What an unmapped access of a write leaves (R158). -/
def unmappedWrite (s : State) (p : Proc) (a : Addr) (d : Byte) : State :=
  { s with diag := s.diag ++ [⟨1, p, .w, a, d⟩] }

/-- What a watchdog read leaves, with the next free byte on the bus (R156). -/
def servicedRead (s : State) (p : Proc) : State :=
  { s with wd := s.wd.set p 0, reply := .data p (Config.freeByte s.draws), draws := s.draws + 1 }

/-- One nibble of an input byte with zeros above it (R134). -/
def nibbleOf (b : Byte) : Half → Byte
  | .lo => 0#4 ++ b.extractLsb' 0 4
  | .hi => 0#4 ++ b.extractLsb' 4 4

/-- The bindings of a chip kind (R132). -/
def bindsOf (c : Config) : ChipKind → Nat → Option Bind
  | .playerCoin, n => [c.bindPlayerCoin.r0, c.bindPlayerCoin.r1, c.bindPlayerCoin.r2, c.bindPlayerCoin.r3].getD n none
  | .dipSwitch, n => [c.bindDipSwitch.r0, c.bindDipSwitch.r1, c.bindDipSwitch.r2, c.bindDipSwitch.r3].getD n none
  | .unmodelled, _ => none

/-- The byte a read of port `idx` of a chip returns (R135-R138). -/
def portValue (s : State) (slot : Slot) (idx : Nat) : Byte :=
  if slot = .s2 then s.cfg.thirdSlotRead
  else if s.iorst = true then s.cfg.quiescentRead
  else
    match bindsOf s.cfg (s.cfg.kinds.get slot) idx with
    | none => s.cfg.unboundRead
    | some b => nibbleOf (s.inp.get b.group) b.half

/-- What a write to a running PlayerCoin chip leaves: port 0 (R140) and port 1 (R141). -/
def coinWrite (s : State) (idx : Nat) (d : Byte) : State :=
  if idx = 0 then
    { s with
      lamp0 := d.getLsbD 0, lamp1 := d.getLsbD 1, lockout := d.getLsbD 2
      out := s.out ++ if d.getLsbD 3 then [] else [.coinPulse 0] }
  else { s with out := s.out ++ if d.getLsbD s.cfg.coin1Bit.val then [] else [.coinPulse 1] }

/-- What a write to port `idx` of a chip leaves (R138-R142). -/
def portWrite (s : State) (slot : Slot) (idx : Nat) (d : Byte) : State :=
  if slot ≠ .s2 ∧ s.iorst = false ∧ s.cfg.kinds.get slot = .playerCoin then coinWrite s idx d else s

/-- What a processor transaction may change, by the target it decodes to (R107). -/
def busFrame (s t : State) (dir : Dir) : Target → Prop
  | .shared r off => match dir with
    | .r => t = { s with reply := t.reply }
    | .w => t = { s with mem := t.mem } ∧ ∀ q c, (q, c) ≠ (r, off) → regionRead t q c = regionRead s q c
  | .rom _ _ => t = { s with reply := t.reply }
  | .io _ _ => match dir with
    | .r => t = { s with reply := t.reply }
    | .w => t = { s with lamp0 := t.lamp0, lamp1 := t.lamp1, lockout := t.lockout, out := t.out } ∧
        (t.out = s.out ∨ ∃ k, t.out = s.out ++ [.coinPulse k])
  | .intCtl q _ => t = { s with ie := t.ie, irq := t.irq } ∧
      ∀ p, p ≠ q → t.ie.get p = s.ie.get p ∧ t.irq.get p = s.irq.get p
  | .subRst _ => t = { s with subrst := t.subrst, wd := t.wd } ∧ t.wd.p0 = s.wd.p0
  | .ioRst _ => t = { s with iorst := t.iorst }
  | .watchdog q => t = { s with wd := t.wd, reply := t.reply, draws := t.draws } ∧
      ∀ p, p ≠ q → t.wd.get p = s.wd.get p
  | .unmapped => t = { s with diag := t.diag, reply := t.reply, draws := t.draws } ∧ ∃ e, t.diag = s.diag ++ [e]

/-- `s` with the chip kinds of slots 0 and 1 swapped: REV_A for REV_B and back (R145). -/
def swapRev (s : State) : State :=
  { s with cfg := { s.cfg with kinds := ⟨s.cfg.kinds.s1, s.cfg.kinds.s0, s.cfg.kinds.s2⟩ } }

/-- The slot across: 0 for 1 and 1 for 0. -/
def otherSlot : Slot → Slot
  | .s0 => .s1
  | .s1 => .s0
  | .s2 => .s2

/-- An outcome with its next state changed by `f`. -/
def mapNext (f : State → State) : Result → Result
  | .next t => .next (f t)
  | .fault e => .fault e
  | .refused e => .refused e

/-- The word of TICK (R170). -/
def tickWord : TxWord := 0x6000000#27

end Sys2Proof.Claims

open Sys2Proof Sys2Proof.Machine Sys2Proof.Claims

/-! ### Encoding -/

/-- Decoding the word of a well-formed instruction gives it back, with every operand (R70-R74, R89). -/
def Obligations.DecodeInvertsEncode : Prop :=
  ∀ i : Instr, i.wf = true → decode (encode i) = i

/-- Encoding the instruction of a word gives the word back, up to the bits the spec says are ignored (R71, R72). -/
def Obligations.EncodeInvertsDecode : Prop :=
  ∀ w : TxWord, encode (decode w) = canonical w

/-- Every word decodes to a well-formed instruction of a row it matches, a fallback row only when no plain row
matches it (R74, R89). -/
def Obligations.EveryWordBelongsToItsRow : Prop :=
  ∀ w : TxWord, (decode w).wf = true ∧ (decode w).row.hits w = true ∧
    ((decode w).row.fallback = true → ∀ o ∈ plainRows, o.hits w = false)

/-- No word matches two plain rows of the table (R89): two rows fix some common bit differently. -/
def Obligations.PlainRowsDoNotOverlap : Prop :=
  plainRows.Pairwise (fun x y => (x.value ^^^ y.value) &&& x.mask &&& y.mask ≠ 0#27)

/-- Words written out from the spec's encodings and examples decode to the rows they stand for. -/
def Obligations.WrittenWordsDecodeToTheirRows : Prop :=
  decode 0b000000000000000000000000000#27 = .p0RdVram 0x000#11 ∧
  decode 0b001010001000000000000110011#27 = .p0WrSnd 0x400#11 0x33#8 ∧
  decode 0b000011010000000000100000000#27 = .p0RdIo0 0x1#4 ∧
  decode 0b001011111111111111110101010#27 = .p0WrIntctl0 0xFFF#12 0xAA#8 ∧
  decode 0b001100000000000000000000000#27 = .p0WrSubrst 0x000#12 0x00#8 ∧
  decode 0b000111111111111111000000000#27 = .p0RdRom 0x7FFE#15 ∧
  decode 0b010010000000000000000000000#27 = .p1RdUnmapped 0x4000#16 ∧
  decode 0b101001111111111111100000000#27 = .p2WrWdog 0x1FFF#13 0x00#8 ∧
  decode 0b110000000000000000000000000#27 = .evTick ∧
  decode 0b110000000000001000111111110#27 = .evSetinBtn 0xFE#8 ∧
  decode 0b111000000000000000000000000#27 = .evReserved 0x1000000#25

/-- The pseudo-transactions have the expansions and words of R88. -/
def Obligations.PseudoTransactionsHaveTheirWords : Prop :=
  Pseudo.expand .ien0 = .wr .p0 0x7000 0 ∧ assemble (Pseudo.expand .ien0) = 0x1700000#27 ∧
  Pseudo.expand .idis0 = .wr .p0 0x7800 0 ∧ assemble (Pseudo.expand .idis0) = 0x1780000#27 ∧
  Pseudo.expand .ien1 = .wr .p1 0x6001 0 ∧ assemble (Pseudo.expand .ien1) = 0x3600100#27 ∧
  Pseudo.expand .idis1 = .wr .p1 0x6000 0 ∧ assemble (Pseudo.expand .idis1) = 0x3600000#27 ∧
  Pseudo.expand .ien2 = .wr .p2 0x4000 0 ∧ assemble (Pseudo.expand .ien2) = 0x5400000#27 ∧
  Pseudo.expand .idis2 = .wr .p2 0x6000 0 ∧ assemble (Pseudo.expand .idis2) = 0x5600000#27 ∧
  Pseudo.expand .subrun = .wr .p0 0x8000 0 ∧ assemble (Pseudo.expand .subrun) = 0x1800000#27 ∧
  Pseudo.expand .subhold = .wr .p0 0x8800 0 ∧ assemble (Pseudo.expand .subhold) = 0x1880000#27 ∧
  Pseudo.expand .iorun = .wr .p0 0x9000 0 ∧ assemble (Pseudo.expand .iorun) = 0x1900000#27 ∧
  Pseudo.expand .iohold = .wr .p0 0x9800 0 ∧ assemble (Pseudo.expand .iohold) = 0x1980000#27 ∧
  Pseudo.expand .wdog0 = .rd .p0 0x7800 ∧ assemble (Pseudo.expand .wdog0) = 0x0780000#27 ∧
  Pseudo.expand .wdog2 = .rd .p2 0x2000 ∧ assemble (Pseudo.expand .wdog2) = 0x4200000#27

/-- Read words that differ only in T[7:0] are the same read, and its canonical word has D = 0x00 (R71). -/
def Obligations.ReadDataFieldIsIgnored : Prop :=
  ∀ v w : TxWord, agentOf v ≠ 3#2 → dirOf v = 0#1 → agentOf w = agentOf v → dirOf w = 0#1 → addrOf w = addrOf v →
    decode w = decode v ∧ dataOf (encode (decode w)) = 0x00#8

/-! ### The address decoder and the setup checks -/

/-- The first matching window of a table wins, an address no window matches is Unmapped, and in the reference tables at
most one window matches (R81). -/
def Obligations.FirstMatchingWindowWins : Prop :=
  (∀ (c : Config) (p : Proc) (dir : Dir) (a : Addr) (before : List Window) (w : Window) (after : List Window),
    c.decode.get p = before ++ w :: after → (∀ x ∈ before, x.hits dir a = false) → w.hits dir a = true →
    decodeAddr c p dir a = windowTarget w dir a) ∧
  (∀ (c : Config) (p : Proc) (dir : Dir) (a : Addr), (∀ x ∈ c.decode.get p, x.hits dir a = false) →
    decodeAddr c p dir a = .unmapped) ∧
  ∀ (p : Proc) (dir : Dir) (a : Addr),
    (refDecode.get p).Pairwise (fun x y => ¬(x.hits dir a = true ∧ y.hits dir a = true))

/-- Addresses that differ only in don't-care bits of a window match it alike, with the same target, offset and level
(R80). -/
def Obligations.DontCareBitsDecodeAlike : Prop :=
  ∀ (w : Window) (dir : Dir) (a b : Addr), (a ^^^ b) &&& (w.mask ||| w.offmask ||| keyMask w) = 0#16 →
    w.hits dir a = w.hits dir b ∧ windowTarget w dir a = windowTarget w dir b

/-- Under REFCFG exactly the addresses of R86 are unmapped, per processor and direction. -/
def Obligations.ReferenceUnmappedAddresses : Prop :=
  ∀ (p : Proc) (dir : Dir) (a : Addr), decodeAddr refConfig p dir a = .unmapped ↔ refUnmapped p dir a = true

/-- P0's SND window reaches the same byte at the two values of A10 (R85, R103). -/
def Obligations.SndMirrorReachesTheSameByte : Prop :=
  ∀ (s : State) (low : BitVec 11) (d : Byte), s.cfg.decode = refDecode →
    exec (.p0WrSnd low d) s = exec (.p0WrSnd (low ^^^ 0x400#11) d) s ∧
    exec (.p0RdSnd low) s = exec (.p0RdSnd (low ^^^ 0x400#11)) s

/-- REFCFG passes the checks of R183, and each changed configuration of 95_test_vectors.md L2.11 fails its check. -/
def Obligations.SetupChecksRefuseTheVectors : Prop :=
  let table0 (f : List Window → List Window) : Config :=
    { refConfig with decode := { refDecode with p0 := f refDecodeP0 } }
  let fails (c : Config) (n : Nat) : Prop := n ∈ (configErrors c).map errorCode
  configErrors refConfig = [] ∧
  fails (table0 (·.set 7 ⟨true, true, 0x7000, 0xF000, 0, .intCtl .p0 11 false⟩)) 0x16 ∧
  fails (table0 (·.set 7 ⟨false, true, 0x7000, 0xF000, 0, .intCtl .p0 12 false⟩)) 0x18 ∧
  fails { refConfig with decode := { refDecode with
    p1 := refDecodeP1.set 0 ⟨true, true, 0x0000, 0xF800, 0x07FF, .shared .snd⟩ } } 0x14 ∧
  fails (table0 (·.set 3 ⟨true, true, 0x4000, 0xF800, 0x07FF, .shared .snd⟩)) 0x13 ∧
  fails { refConfig with decode := { refDecode with
    p0 := refDecodeP0.eraseIdx 9, p1 := refDecodeP1 ++ [⟨false, true, 0x8000, 0xF000, 0, .subRst 11 false⟩] } } 0x19 ∧
  fails { refConfig with wdLimit := 0 } 0x1C ∧
  fails { refConfig with wdHas := ⟨true, true, false⟩ } 0x17

/-! ### The step -/

/-- Under an accepted configuration a step takes the first pending word, idles the read bus and runs the instruction the
word decodes to; and `withFetchWord` places a word so that the next step runs it. -/
def Obligations.StepRunsTheDecodedInstruction : Prop :=
  (∀ (s : State) (w : TxWord) (rest : List TxWord) (i : Instr), accepted s.cfg = true → s.pending = w :: rest →
    decode w = i → step s = exec i { s with pending := rest, reply := .none }) ∧
  ∀ (s : State) (n w : Nat), accepted s.cfg = true → w < 2 ^ 27 →
    ∃ i, decodeTableWord n w = some i ∧
      step (s.withFetchWord n w) =
        exec i { s with
          reply := .none
          subrst := if agentOf (BitVec.ofNat 27 w) = 1#2 ∨ agentOf (BitVec.ofNat 27 w) = 2#2 then false else s.subrst }

/-- No step changes a configuration parameter (R37), and a configuration that fails a check of R183 has no step. That
`step` itself refuses it and lists every failed check is the model's choice (log entry 15). -/
def Obligations.ConfigurationIsFixed : Prop :=
  (∀ s t : State, step s = .next t → t.cfg = s.cfg) ∧
  ∀ s : State, configErrors s.cfg ≠ [] → step s = .refused (.configuration (configErrors s.cfg))

/-- Under an accepted configuration every word that is not reserved has a step: no fault, no refusal (R102, R106, R182,
R183). -/
def Obligations.EveryUnreservedWordHasAStep : Prop :=
  ∀ (s : State) (w : TxWord) (rest : List TxWord), accepted s.cfg = true → s.pending = w :: rest →
    isReservedWord w = false → ∃ t, step s = .next t

/-- The reserved words are those of agent 3 with dir = 1 or with a code that R72 does not list; each is refused with the
word recorded, and has no step (R73). -/
def Obligations.ReservedWordsAreRefused : Prop :=
  (∀ w : TxWord, (∃ rest, decode w = .evReserved rest) ↔
    (agentOf w = 3#2 ∧ (dirOf w = 1#1 ∨ isEventCode (addrOf w) = false))) ∧
  (∀ (s : State) (w : TxWord) (rest : BitVec 25), decode w = .evReserved rest →
    exec (.evReserved rest) s = .refused (.reserved w)) ∧
  ∀ (s : State) (rest : BitVec 25), exec (.evReserved rest) s = .refused (.reserved (3#2 ++ rest))

/-- The invariant of the block is kept by every step. -/
def Obligations.InvariantKeptByEveryStep : Prop :=
  ∀ s t : State, Inv s → step s = .next t → Inv t

/-- The invariant holds at power-on of every accepted configuration, REFCFG's among them. -/
def Obligations.InvariantHoldsAtPowerOn : Prop :=
  (∀ c : Config, accepted c = true → Inv (State.powerOn c)) ∧ Inv State.reset

/-- A run starts with every field at its power-on value, the inputs at INPUT_INIT, both logs empty, no reset pulse
emitted, and P1 and P2 held (R211, R42). That `wd` is 0 also for a processor without a watchdog, which has no counter, is
the model's choice (log entry 13), and so are the 0xFF inputs of `State.reset` (log entry 7). -/
def Obligations.RunStartsAtPowerOn : Prop :=
  (∀ c : Config,
    let s := State.powerOn c
    (∀ p, s.ie.get p = false ∧ s.irq.get p = false ∧ s.wd.get p = 0) ∧
    s.subrst = true ∧ s.iorst = c.ioRstPowerOn ∧ s.lamp0 = false ∧ s.lamp1 = false ∧ s.lockout = false ∧
    (∀ r off, regionRead s r off = 0x00#8) ∧ s.inp = c.inputInit ∧ s.diag = [] ∧ s.out = [] ∧
    resetLine s .p0 = false ∧ resetLine s .p1 = true ∧ resetLine s .p2 = true) ∧
  State.reset = State.powerOn refConfig

/-- "irq[p] = 1 implies ie[p] = 1" at power-on and after every step from a state where it holds (R25). -/
def Obligations.AssertedLineImpliesEnabledLatch : Prop :=
  (∀ c : Config, IrqOnlyWhenEnabled (State.powerOn c)) ∧
  ∀ s t : State, IrqOnlyWhenEnabled s → step s = .next t → IrqOnlyWhenEnabled t

/-- A watchdog counter stays in 0 .. WD_LIMIT - 1 (R30). -/
def Obligations.WatchdogCountersStayInRange : Prop :=
  ∀ s t : State, WatchdogsInRange s → step s = .next t → WatchdogsInRange t

/-- No step removes an entry of either log, and both are empty at the start of a run (R36). -/
def Obligations.LogsAreAppendOnly : Prop :=
  (∀ s t : State, step s = .next t → (∃ l, t.diag = s.diag ++ l) ∧ ∃ l, t.out = s.out ++ l) ∧
  ∀ c : Config, (State.powerOn c).diag = [] ∧ (State.powerOn c).out = []

/-- Only TICK asserts an interrupt line; and a line once asserted is cleared only by a disable write to its own IntCtl
target or by a reset: POWERON, a watchdog expiry, or SYSRESET for P1 (R24, R171, R184). -/
def Obligations.InterruptLinesChangeOnlyAsTheRulesSay : Prop :=
  ∀ (s t : State) (i : Instr) (q : Proc), accepted s.cfg = true → exec i s = .next t →
    (s.irq.get q = false → t.irq.get q = true → i = .evTick ∧ s.ie.get q = true) ∧
    (s.irq.get q = true → t.irq.get q = false →
      (∃ x, Reaches s i x (.intCtl q false) ∧ x.dir = .w) ∨ i = .evPoweron ∨ (i = .evSysreset ∧ q = .p1) ∨
        (i = .evTick ∧ WatchdogExpires s))

/-- An interrupt-enable latch changes only by a write that decodes to its IntCtl target, and by the resets: POWERON, a
watchdog expiry, and SYSRESET for P1 alone (R23, R212). -/
def Obligations.EnableLatchesChangeOnlyAsTheRulesSay : Prop :=
  ∀ (s t : State) (i : Instr) (q : Proc), accepted s.cfg = true → exec i s = .next t → t.ie.get q ≠ s.ie.get q →
    (∃ x lvl, Reaches s i x (.intCtl q lvl) ∧ x.dir = .w) ∨ i = .evPoweron ∨ (i = .evSysreset ∧ q = .p1) ∨
      (i = .evTick ∧ WatchdogExpires s)

/-- While P1 and P2 are held, only a write of P0 that releases SubRst brings them out; no reset does (R26, R196). -/
def Obligations.OnlyAReleaseOfP0WakesTheSecondaries : Prop :=
  ∀ (s t : State) (i : Instr), accepted s.cfg = true → exec i s = .next t → s.subrst = true → t.subrst = false →
    ∃ x, Reaches s i x (.subRst true) ∧ x.dir = .w ∧ x.proc = .p0

/-- A region's byte changes only by an owner's write to it, after which it is the data written, or by a cold-style
reset, after which it is 0x00 (R54, R56). -/
def Obligations.RegionBytesChangeOnlyByOwnersOrColdReset : Prop :=
  ∀ (s t : State) (i : Instr) (r : Region) (off : Nat), Inv s → exec i s = .next t →
    regionRead t r off ≠ regionRead s r off →
    (∃ x, Reaches s i x (.shared r off) ∧ x.dir = .w ∧ r.ownedBy x.proc = true ∧ regionRead t r off = x.data) ∨
    ((i = .evPoweron ∨ (i = .evTick ∧ WatchdogExpires s)) ∧ regionRead t r off = 0x00#8)

/-- A byte written to a shared region is what the very next read of it returns, whichever processor reads (R53). -/
def Obligations.WriteIsVisibleToTheNextRead : Prop :=
  ∀ (s t : State) (i j : Instr) (x y : Access) (r : Region) (off : Nat), Inv s →
    Reaches s i x (.shared r off) → x.dir = .w → exec i s = .next t →
    Reaches t j y (.shared r off) → y.dir = .r →
    exec j t = .next { t with reply := .data y.proc x.data }

/-- A processor can neither change nor learn the bytes of a region it does not own: with any other contents of that
region, its transaction answers the same and leaves those contents (R56). -/
def Obligations.NonOwnersAreIsolatedFromARegion : Prop :=
  ∀ (s t : State) (i : Instr) (x : Access) (r : Region) (m : Memory), accepted s.cfg = true →
    i.access = some x → r.ownedBy x.proc = false → exec i s = .next t →
    exec i { s with mem := s.mem.set r m } = .next { t with mem := t.mem.set r m } ∧
    t.mem.get r = s.mem.get r

/-- A write to a control or watchdog window has the same outcome for every data byte (R160). -/
def Obligations.ControlWritesIgnoreTheDataByte : Prop :=
  ∀ (s : State) (i j : Instr) (x y : Access) (t : Target), i.access = some x → j.access = some y →
    x.dir = .w → y = { x with data := y.data } → decodeAddr s.cfg x.proc .w x.addr = t →
    ((∃ q lvl, t = .intCtl q lvl) ∨ (∃ lvl, t = .subRst lvl) ∨ (∃ lvl, t = .ioRst lvl) ∨ ∃ q, t = .watchdog q) →
    exec i s = exec j s

/-! ### Results of the transactions, each with everything it leaves unchanged -/

/-- A transaction of P1 or P2 while `subrst` is 1 is not performed (R43, R106). That the model answers a next state that
differs in the reply alone is its own choice (log entry 4). -/
def Obligations.HeldSecondariesPerformNothing : Prop :=
  ∀ (s : State) (i : Instr) (x : Access), i.access = some x → x.proc ≠ .p0 → s.subrst = true →
    exec i s = .next { s with reply := .held x.proc }

/-- A shared read returns the region's byte and changes nothing: for every window of an accepted configuration, and row
by row on the reference map (R120). -/
def Obligations.SharedReadsReturnTheByte : Prop :=
  (∀ (s : State) (i : Instr) (x : Access) (r : Region) (off : Nat), accepted s.cfg = true →
    Reaches s i x (.shared r off) → x.dir = .r →
    exec i s = .next { s with reply := .data x.proc (regionRead s r off) }) ∧
  ∀ s : State, OnRefMap s →
    (∀ low, exec (.p0RdVram low) s = .next { s with reply := .data .p0 (regionRead s .vram low.toNat) }) ∧
    (∀ low, exec (.p0RdWramA low) s = .next { s with reply := .data .p0 (regionRead s .wramA low.toNat) }) ∧
    (∀ low, exec (.p0RdWramB low) s = .next { s with reply := .data .p0 (regionRead s .wramB low.toNat) }) ∧
    (∀ low, exec (.p0RdSnd low) s =
      .next { s with reply := .data .p0 (regionRead s .snd (low.extractLsb' 0 10).toNat) }) ∧
    (s.subrst = false →
      (∀ low, exec (.p1RdVram low) s = .next { s with reply := .data .p1 (regionRead s .vram low.toNat) }) ∧
      (∀ low, exec (.p1RdWramA low) s = .next { s with reply := .data .p1 (regionRead s .wramA low.toNat) }) ∧
      (∀ low, exec (.p1RdWramB low) s = .next { s with reply := .data .p1 (regionRead s .wramB low.toNat) }) ∧
      (∀ low, exec (.p2RdSnd low) s = .next { s with reply := .data .p2 (regionRead s .snd low.toNat) }))

/-- A shared write stores its byte and changes nothing else: for every window of an accepted configuration, and row by
row on the reference map (R121, R52). -/
def Obligations.SharedWritesStoreTheByte : Prop :=
  (∀ (s : State) (i : Instr) (x : Access) (r : Region) (off : Nat), Inv s → Reaches s i x (.shared r off) →
    x.dir = .w → ∃ t, exec i s = .next t ∧ StoresByte s t r off x.data) ∧
  ∀ s : State, Inv s → s.cfg.decode = refDecode →
    (∀ low d, ∃ t, exec (.p0WrVram low d) s = .next t ∧ StoresByte s t .vram low.toNat d) ∧
    (∀ low d, ∃ t, exec (.p0WrWramA low d) s = .next t ∧ StoresByte s t .wramA low.toNat d) ∧
    (∀ low d, ∃ t, exec (.p0WrWramB low d) s = .next t ∧ StoresByte s t .wramB low.toNat d) ∧
    (∀ low d, ∃ t, exec (.p0WrSnd low d) s = .next t ∧ StoresByte s t .snd (low.extractLsb' 0 10).toNat d) ∧
    (s.subrst = false →
      (∀ low d, ∃ t, exec (.p1WrVram low d) s = .next t ∧ StoresByte s t .vram low.toNat d) ∧
      (∀ low d, ∃ t, exec (.p1WrWramA low d) s = .next t ∧ StoresByte s t .wramA low.toNat d) ∧
      (∀ low d, ∃ t, exec (.p1WrWramB low d) s = .next t ∧ StoresByte s t .wramB low.toNat d) ∧
      (∀ low d, ∃ t, exec (.p2WrSnd low d) s = .next t ∧ StoresByte s t .snd low.toNat d))

/-- A ROM read returns the image's byte and changes nothing: for every window of an accepted configuration, and row by
row on the reference map (R122). -/
def Obligations.RomReadsReturnTheImageByte : Prop :=
  (∀ (s : State) (i : Instr) (x : Access) (b : Proc) (off : Nat), accepted s.cfg = true →
    Reaches s i x (.rom b off) → exec i s = .next { s with reply := .data x.proc (romRead s.cfg b off) }) ∧
  ∀ s : State, OnRefMap s →
    (∀ low, exec (.p0RdRom low) s = .next { s with reply := .data .p0 (romRead s.cfg .p0 low.toNat) }) ∧
    (s.subrst = false →
      (∀ low, exec (.p1RdRom low) s = .next { s with reply := .data .p1 (romRead s.cfg .p1 low.toNat) }) ∧
      (∀ low, exec (.p2RdRom low) s = .next { s with reply := .data .p2 (romRead s.cfg .p2 low.toNat) }))

/-- An I/O read returns THIRD_SLOT_READ from slot 2, QUIESCENT_READ from a chip held in reset, the bound nibble or
UNBOUND_READ from a running chip, and changes nothing (R134-R138). -/
def Obligations.IoReadsReturnThePortValue : Prop :=
  (∀ (s : State) (i : Instr) (x : Access) (slot : Slot) (idx : Nat), Reaches s i x (.io slot idx) → x.dir = .r →
    exec i s = .next { s with reply := .data x.proc (portValue s slot idx) }) ∧
  ∀ s : State, s.cfg.decode = refDecode → ∀ low : BitVec 4,
    exec (.p0RdIo0 low) s = .next { s with reply := .data .p0 (portValue s .s0 (low.extractLsb' 0 2).toNat) } ∧
    exec (.p0RdIo1 low) s = .next { s with reply := .data .p0 (portValue s .s1 (low.extractLsb' 0 2).toNat) } ∧
    exec (.p0RdIo2 low) s = .next { s with reply := .data .p0 s.cfg.thirdSlotRead }

/-- An I/O write to a running PlayerCoin chip sets lamps and lockout and emits a coin pulse when the coin bit is clear;
every other I/O write is swallowed (R138-R142). -/
def Obligations.IoWritesDriveTheOutputs : Prop :=
  (∀ (s : State) (i : Instr) (x : Access) (slot : Slot) (idx : Nat), Reaches s i x (.io slot idx) → x.dir = .w →
    exec i s = .next (portWrite s slot idx x.data)) ∧
  ∀ s : State, s.cfg.decode = refDecode → ∀ (low : BitVec 4) (d : Byte),
    exec (.p0WrIo0 low d) s = .next (portWrite s .s0 (low.extractLsb' 0 1).toNat d) ∧
    exec (.p0WrIo1 low d) s = .next (portWrite s .s1 (low.extractLsb' 0 1).toNat d) ∧
    exec (.p0WrIo2 low d) s = .next s

/-- An IntCtl write sets or clears the latch and a disable clears the pending line; it asserts nothing, whatever the data
and whether or not the latch's processor is held (R150). On the reference map: A11 = 0 enables P0, A0 = 1 enables P1,
A13 = 0 enables P2. -/
def Obligations.IntCtlWritesTheEnableLatch : Prop :=
  (∀ (s : State) (i : Instr) (x : Access) (q : Proc) (lvl : Bool), Reaches s i x (.intCtl q lvl) → x.dir = .w →
    exec i s = .next (latched s q lvl)) ∧
  ∀ s : State, s.cfg.decode = refDecode →
    (∀ low d, exec (.p0WrIntctl0 low d) s = .next (latched s .p0 (!low.getLsbD 11))) ∧
    (s.subrst = false →
      (∀ low d, exec (.p1WrIntctl1 low d) s = .next (latched s .p1 (low.getLsbD 0))) ∧
      (∀ low d, exec (.p2WrIntctl2 low d) s = .next (latched s .p2 (!low.getLsbD 13))))

/-- A SubRst write releases or holds both secondaries at once and gates sound-enable with them, zeroes the held
watchdogs, and changes no latch, line or log (R27, R28, R152). On the reference map A11 = 0 releases. -/
def Obligations.SubRstHoldsBothSecondaries : Prop :=
  (∀ (s : State) (i : Instr) (x : Access) (lvl : Bool), Reaches s i x (.subRst lvl) → x.dir = .w →
    exec i s = .next (subReset s lvl) ∧ resetLine (subReset s lvl) .p1 = !lvl ∧ resetLine (subReset s lvl) .p2 = !lvl ∧
      soundEnable (subReset s lvl) = lvl) ∧
  ∀ s : State, s.cfg.decode = refDecode → ∀ low d,
    exec (.p0WrSubrst low d) s = .next (subReset s (!low.getLsbD 11))

/-- An IoRst write releases or holds both modelled chips at once and changes nothing else (R33, R154). On the reference
map A11 = 0 releases. -/
def Obligations.IoRstHoldsBothChips : Prop :=
  (∀ (s : State) (i : Instr) (x : Access) (lvl : Bool), Reaches s i x (.ioRst lvl) → x.dir = .w →
    exec i s = .next { s with iorst := !lvl } ∧ chipReset { s with iorst := !lvl } .s0 = !lvl ∧
      chipReset { s with iorst := !lvl } .s1 = !lvl ∧ chipReset { s with iorst := !lvl } .s2 = false) ∧
  ∀ s : State, s.cfg.decode = refDecode → ∀ low d,
    exec (.p0WrIorst low d) s = .next { s with iorst := low.getLsbD 11 }

/-- A watchdog access zeroes the processor's counter; a read returns a free byte (R156). -/
def Obligations.WatchdogAccessServicesTheCounter : Prop :=
  (∀ (s : State) (i : Instr) (x : Access) (q : Proc), accepted s.cfg = true → Reaches s i x (.watchdog q) →
    q = x.proc ∧ (x.dir = .r → exec i s = .next (servicedRead s q)) ∧
      (x.dir = .w → exec i s = .next { s with wd := s.wd.set q 0 })) ∧
  ∀ s : State, OnRefMap s →
    (∀ low, exec (.p0RdWdog low) s = .next (servicedRead s .p0)) ∧
    (s.subrst = false →
      (∀ low, exec (.p2RdWdog low) s = .next (servicedRead s .p2)) ∧
      (∀ low d, exec (.p2WrWdog low d) s = .next { s with wd := s.wd.set .p2 0 }))

/-- An access no window decodes records one diagnostic with code 1 and changes nothing else but the read bus, where a
read returns a free byte (R158, R181). The data recorded for a read is the canonical 0x00 (log entry 8). -/
def Obligations.UnmappedAccessRecordsADiagnostic : Prop :=
  (∀ (s : State) (i : Instr) (x : Access), Reaches s i x .unmapped →
    (x.dir = .r → exec i s = .next (unmappedRead s x.proc x.addr)) ∧
    (x.dir = .w → exec i s = .next (unmappedWrite s x.proc x.addr x.data))) ∧
  ∀ s : State, s.cfg.decode = refDecode →
    (∀ a, refUnmapped .p0 .r a = true → exec (.p0RdUnmapped a) s = .next (unmappedRead s .p0 a)) ∧
    (∀ a d, refUnmapped .p0 .w a = true → exec (.p0WrUnmapped a d) s = .next (unmappedWrite s .p0 a d)) ∧
    (s.subrst = false →
      (∀ a, refUnmapped .p1 .r a = true → exec (.p1RdUnmapped a) s = .next (unmappedRead s .p1 a)) ∧
      (∀ a d, refUnmapped .p1 .w a = true → exec (.p1WrUnmapped a d) s = .next (unmappedWrite s .p1 a d)) ∧
      (∀ a, refUnmapped .p2 .r a = true → exec (.p2RdUnmapped a) s = .next (unmappedRead s .p2 a)) ∧
      (∀ a d, refUnmapped .p2 .w a = true → exec (.p2WrUnmapped a d) s = .next (unmappedWrite s .p2 a d)))

/-- A processor transaction changes only what the rule of its target names; it asserts no interrupt line and emits no
reset pulse (R107). -/
def Obligations.ProcessorTransactionsChangeOnlyTheirTarget : Prop :=
  ∀ (s t : State) (i : Instr) (x : Access) (g : Target), accepted s.cfg = true → Reaches s i x g → exec i s = .next t →
    busFrame s t x.dir g ∧ (∀ q, t.irq.get q = true → s.irq.get q = true) ∧
    ∃ l, t.out = s.out ++ l ∧ ∀ p, OutEvent.resetPulse p ∉ l

/-! ### System events -/

/-- TICK asserts each enabled processor's line, pulses both chips unless they are held in reset, and counts the running
watchdogs; if one reaches WD_LIMIT it reports each expiry and performs exactly one cold-style reset instead (R170). -/
def Obligations.TickDrivesTheFrame : Prop :=
  ∀ s : State,
    let counts (q : Proc) : Bool := s.cfg.wdHas.get q && !resetLine s q
    let wd : Proc → Nat := fun q => if counts q then s.wd.get q + 1 else s.wd.get q
    let late (q : Proc) : List OutEvent := if counts q && decide (s.cfg.wdLimit ≤ wd q) then [.watchdogReset q] else []
    let u : State := { s with
      irq := ⟨s.irq.p0 || s.ie.p0, s.irq.p1 || s.ie.p1, s.irq.p2 || s.ie.p2⟩
      out := s.out ++ if s.iorst then [] else
        [.chipIrqPulse .s0 s.cfg.chipIrqRoute0, .chipIrqPulse .s1 s.cfg.chipIrqRoute1]
      wd := ⟨wd .p0, wd .p1, wd .p2⟩ }
    (¬WatchdogExpires s → exec .evTick s = .next u) ∧
    (WatchdogExpires s → exec .evTick s = .next (coldReset u (late .p0 ++ late .p1 ++ late .p2)))

/-- SETIN sets the byte of its group and changes nothing else (R172). -/
def Obligations.SetInChangesOneInputByte : Prop :=
  ∀ (s : State) (b : Byte),
    exec (.evSetinJoy b) s = .next { s with inp := { s.inp with joy := b } } ∧
    exec (.evSetinBtn b) s = .next { s with inp := { s.inp with btn := b } } ∧
    exec (.evSetinDswa b) s = .next { s with inp := { s.inp with dswa := b } } ∧
    exec (.evSetinDswb b) s = .next { s with inp := { s.inp with dswb := b } }

/-- POWERON puts every field at its power-on value, keeps the inputs and both logs, and pulses every processor's reset
(R174, R210). -/
def Obligations.PowerOnReinitialisesEverything : Prop :=
  ∀ s : State, exec .evPoweron s = .next (coldReset s [])

/-- SYSRESET clears P1's latch and line alone, asserts the reset lines as configured, zeroes the watchdogs, pulses every
processor's reset, and keeps the memory, the outputs, the inputs and the logs (R175, R212). -/
def Obligations.SysResetClearsOnlyP1 : Prop :=
  ∀ s : State, exec .evSysreset s = .next { s with
    ie := ⟨s.ie.p0, false, s.ie.p2⟩
    irq := ⟨s.irq.p0, false, s.irq.p2⟩
    subrst := if s.cfg.sysResetSubRst = true then true else s.subrst
    iorst := if s.cfg.sysResetIoRst = true then true else s.iorst
    wd := zeroedWd s
    out := s.out ++ resetEvents }

/-- Inputs change only by SETIN: no processor transaction, TICK or reset writes them (R32). -/
def Obligations.InputsChangeOnlyBySetIn : Prop :=
  ∀ (s t : State) (i : Instr), accepted s.cfg = true → exec i s = .next t → t.inp ≠ s.inp →
    ∃ b, i = .evSetinJoy b ∨ i = .evSetinBtn b ∨ i = .evSetinDswa b ∨ i = .evSetinDswb b

/-- A TICK against a disabled latch leaves no trace that a later enable could deliver (R171, R221). -/
def Obligations.LostInterruptIsNotDeliveredLater : Prop :=
  ∀ (s t u : State) (i : Instr) (x : Access) (q : Proc), IrqOnlyWhenEnabled s → s.ie.get q = false →
    exec .evTick s = .next t → Reaches t i x (.intCtl q true) → x.dir = .w → exec i t = .next u →
    u.ie.get q = true ∧ u.irq.get q = false

/-- From all counters at zero, fewer than WD_LIMIT ticks count up and reset nothing, and exactly the WD_LIMIT-th performs
one cold-style reset that reports each running watchdog once (R170, R222). The entries of processors without a watchdog
are 0 before and after by the model's choice (log entry 13). -/
def Obligations.WatchdogExpiresAtTheLimit : Prop :=
  ∀ (s : State) (n : Nat) (rest : List TxWord), accepted s.cfg = true → s.wd = ⟨0, 0, 0⟩ →
    s.pending = List.replicate n tickWord ++ rest →
    (n < s.cfg.wdLimit → ∃ t, Host.Core.run Sys2Proof.core n s = .next t ∧ t.pending = rest ∧
      (∀ q, t.wd.get q = if s.cfg.wdHas.get q = true ∧ resetLine s q = false then n else 0) ∧
      t.mem = s.mem ∧ t.ie = s.ie ∧ t.subrst = s.subrst ∧ t.iorst = s.iorst ∧
      ∀ p, t.out.count (.watchdogReset p) = s.out.count (.watchdogReset p) ∧
        t.out.count (.resetPulse p) = s.out.count (.resetPulse p)) ∧
    (n = s.cfg.wdLimit → (∃ q, s.cfg.wdHas.get q = true ∧ resetLine s q = false) →
      ∃ t, Host.Core.run Sys2Proof.core n s = .next t ∧ t.pending = rest ∧ t.wd = ⟨0, 0, 0⟩ ∧
      t.ie = ⟨false, false, false⟩ ∧ t.irq = ⟨false, false, false⟩ ∧ t.subrst = true ∧ t.iorst = s.cfg.ioRstPowerOn ∧
      (∀ r off, regionRead t r off = 0x00#8) ∧
      ∀ p, t.out.count (.watchdogReset p) = s.out.count (.watchdogReset p) +
          (if s.cfg.wdHas.get p = true ∧ resetLine s p = false then 1 else 0) ∧
        t.out.count (.resetPulse p) = s.out.count (.resetPulse p) + 1)

/-- Swapping the kinds of slots 0 and 1 exchanges what the two slots' ports read and write, and changes the outcome of no
other instruction (R145). -/
def Obligations.RevisionSwapExchangesTheSlots : Prop :=
  (∀ (s : State) (i : Instr) (x : Access) (slot : Slot) (idx : Nat), slot ≠ .s2 → Reaches s i x (.io slot idx) →
    (x.dir = .r → exec i (swapRev s) =
      .next { swapRev s with reply := .data x.proc (portValue s (otherSlot slot) idx) }) ∧
    (x.dir = .w → exec i (swapRev s) = .next (swapRev (portWrite s (otherSlot slot) idx x.data)))) ∧
  ∀ (s : State) (i : Instr), (¬∃ x slot idx, slot ≠ .s2 ∧ Reaches s i x (.io slot idx)) →
    exec i (swapRev s) = mapNext swapRev (exec i s)

/-! ### Under any configuration -/

/-- The pseudo-transactions expand to the configuration's window addresses (R88): under REFCFG to the lines of R88's
table; every expansion reaches the target it names; and under an accepted configuration there is one wherever any address
of any table decodes to that target. Which of these addresses is taken is the model's choice (log entry 19). -/
def Obligations.PseudoTransactionsFollowTheConfiguration : Prop :=
  (∀ x : Pseudo, expandIn refConfig x = some x.expand) ∧
  (∀ (c : Config) (x : Pseudo) (l : Line), expandIn c x = some l →
    ∃ y, (decode (assemble l)).access = some y ∧ y.data = 0x00#8 ∧ decodeAddr c y.proc y.dir y.addr = pseudoTarget x) ∧
  ∀ (c : Config) (x : Pseudo) (p : Proc) (dir : Dir) (a : Addr), accepted c = true →
    decodeAddr c p dir a = pseudoTarget x → expandIn c x ≠ none

/-- The rows regenerated from REFCFG are the 47 rows of the table, and every word has the row it decodes to (R89). -/
def Obligations.RegeneratedRowsAreTheTable : Prop :=
  (rowsOf refConfig).length = 47 ∧ (rowsOf refConfig).filter (fun o => !o.fallback) = plainRows ∧
  ∀ w : TxWord, rowIn refConfig w = (decode w).row

/-- Under any configuration the row of a processor's word is the row of the first window of its table that matches, and
the Unmapped row where none does (R81, R89). -/
def Obligations.RegeneratedRowsFollowTheDecoder : Prop :=
  ∀ (c : Config) (p : Proc) (dir : Dir) (w : TxWord), agentOf w = p.agent → dirOf w = dir.bit →
    (∀ (before : List Window) (x : Window) (after : List Window), c.decode.get p = before ++ x :: after →
      (∀ v ∈ before, v.hits dir (addrOf w) = false) → x.hits dir (addrOf w) = true →
      rowIn c w = windowRow p dir x) ∧
    ((∀ v ∈ c.decode.get p, v.hits dir (addrOf w) = false) → rowIn c w = unmappedRow p dir)

/-- The four kinds of abnormal event carry the codes of R180: 1 in the diagnostic of an unmapped access, 2 for a
WatchdogReset and no other output event, 3 for the refusal of a reserved word, 0x10 + n for each failed check Wn. -/
def Obligations.AbnormalEventsHaveTheirCodes : Prop :=
  (∀ (s : State) (i : Instr) (x : Access), Reaches s i x .unmapped →
    ∃ t, exec i s = .next t ∧ t.diag = s.diag ++ [⟨1, x.proc, x.dir, x.addr, x.data⟩]) ∧
  (∀ e : OutEvent, (∃ q, e = .watchdogReset q) ∧ e.code = some 2 ∨ (∀ q, e ≠ .watchdogReset q) ∧ e.code = none) ∧
  (∀ (s : State) (rest : BitVec 25), ∃ r, exec (.evReserved rest) s = .refused r ∧ r.codes = [3]) ∧
  ∀ s : State, configErrors s.cfg ≠ [] →
    ∃ r, step s = .refused r ∧ r.codes = (configErrors s.cfg).map (fun e => 0x10 + e.check)
end

