-- ==== Sys2Proof/Laws/State.lean ====
section
/-! SUPPORT. Laws/State: one lemma per field per update, so that no later proof unfolds a record update. -/

namespace Sys2Proof.Machine

/-! ### The indexed records -/

@[simp] theorem perProc_get_set_same {α : Type} (v : PerProc α) (p : Proc) (a : α) : (v.set p a).get p = a := by
  cases p <;> rfl

theorem perProc_get_set_other {α : Type} (v : PerProc α) (p q : Proc) (a : α) (h : q ≠ p) :
    (v.set p a).get q = v.get q := by
  cases p <;> cases q <;> first | rfl | exact absurd rfl h

@[simp] theorem perRegion_get_set_same {α : Type} (v : PerRegion α) (r : Region) (a : α) : (v.set r a).get r = a := by
  cases r <;> rfl

theorem perRegion_get_set_other {α : Type} (v : PerRegion α) (r q : Region) (a : α) (h : q ≠ r) :
    (v.set r a).get q = v.get q := by
  cases r <;> cases q <;> first | rfl | exact absurd rfl h

@[simp] theorem perGroup_get_set_same {α : Type} (v : PerGroup α) (g : Group) (a : α) : (v.set g a).get g = a := by
  cases g <;> rfl

theorem perGroup_get_set_other {α : Type} (v : PerGroup α) (g q : Group) (a : α) (h : q ≠ g) :
    (v.set g a).get q = v.get q := by
  cases g <;> cases q <;> first | rfl | exact absurd rfl h

/-! ### Fields an update leaves alone -/

@[simp] theorem regionWrite_cfg (s : State) (r : Region) (off : Nat) (v : Byte) : (regionWrite s r off v).cfg = s.cfg := rfl
@[simp] theorem regionWrite_ie (s : State) (r : Region) (off : Nat) (v : Byte) : (regionWrite s r off v).ie = s.ie := rfl
@[simp] theorem regionWrite_irq (s : State) (r : Region) (off : Nat) (v : Byte) : (regionWrite s r off v).irq = s.irq := rfl
@[simp] theorem regionWrite_subrst (s : State) (r : Region) (off : Nat) (v : Byte) : (regionWrite s r off v).subrst = s.subrst := rfl
@[simp] theorem regionWrite_iorst (s : State) (r : Region) (off : Nat) (v : Byte) : (regionWrite s r off v).iorst = s.iorst := rfl
@[simp] theorem regionWrite_wd (s : State) (r : Region) (off : Nat) (v : Byte) : (regionWrite s r off v).wd = s.wd := rfl
@[simp] theorem regionWrite_lamp0 (s : State) (r : Region) (off : Nat) (v : Byte) : (regionWrite s r off v).lamp0 = s.lamp0 := rfl
@[simp] theorem regionWrite_lamp1 (s : State) (r : Region) (off : Nat) (v : Byte) : (regionWrite s r off v).lamp1 = s.lamp1 := rfl
@[simp] theorem regionWrite_lockout (s : State) (r : Region) (off : Nat) (v : Byte) : (regionWrite s r off v).lockout = s.lockout := rfl
@[simp] theorem regionWrite_inp (s : State) (r : Region) (off : Nat) (v : Byte) : (regionWrite s r off v).inp = s.inp := rfl
@[simp] theorem regionWrite_diag (s : State) (r : Region) (off : Nat) (v : Byte) : (regionWrite s r off v).diag = s.diag := rfl
@[simp] theorem regionWrite_out (s : State) (r : Region) (off : Nat) (v : Byte) : (regionWrite s r off v).out = s.out := rfl
@[simp] theorem regionWrite_reply (s : State) (r : Region) (off : Nat) (v : Byte) : (regionWrite s r off v).reply = s.reply := rfl
@[simp] theorem regionWrite_draws (s : State) (r : Region) (off : Nat) (v : Byte) : (regionWrite s r off v).draws = s.draws := rfl
@[simp] theorem regionWrite_pending (s : State) (r : Region) (off : Nat) (v : Byte) : (regionWrite s r off v).pending = s.pending := rfl

@[simp] theorem emit_cfg (e : OutEvent) (s : State) : (emit e s).cfg = s.cfg := rfl
@[simp] theorem emit_ie (e : OutEvent) (s : State) : (emit e s).ie = s.ie := rfl
@[simp] theorem emit_irq (e : OutEvent) (s : State) : (emit e s).irq = s.irq := rfl
@[simp] theorem emit_subrst (e : OutEvent) (s : State) : (emit e s).subrst = s.subrst := rfl
@[simp] theorem emit_iorst (e : OutEvent) (s : State) : (emit e s).iorst = s.iorst := rfl
@[simp] theorem emit_wd (e : OutEvent) (s : State) : (emit e s).wd = s.wd := rfl
@[simp] theorem emit_lamp0 (e : OutEvent) (s : State) : (emit e s).lamp0 = s.lamp0 := rfl
@[simp] theorem emit_lamp1 (e : OutEvent) (s : State) : (emit e s).lamp1 = s.lamp1 := rfl
@[simp] theorem emit_lockout (e : OutEvent) (s : State) : (emit e s).lockout = s.lockout := rfl
@[simp] theorem emit_inp (e : OutEvent) (s : State) : (emit e s).inp = s.inp := rfl
@[simp] theorem emit_mem (e : OutEvent) (s : State) : (emit e s).mem = s.mem := rfl
@[simp] theorem emit_diag (e : OutEvent) (s : State) : (emit e s).diag = s.diag := rfl
@[simp] theorem emit_reply (e : OutEvent) (s : State) : (emit e s).reply = s.reply := rfl
@[simp] theorem emit_draws (e : OutEvent) (s : State) : (emit e s).draws = s.draws := rfl
@[simp] theorem emit_pending (e : OutEvent) (s : State) : (emit e s).pending = s.pending := rfl

@[simp] theorem emitIf_cfg (b : Bool) (e : OutEvent) (s : State) : (emitIf b e s).cfg = s.cfg := rfl
@[simp] theorem emitIf_ie (b : Bool) (e : OutEvent) (s : State) : (emitIf b e s).ie = s.ie := rfl
@[simp] theorem emitIf_irq (b : Bool) (e : OutEvent) (s : State) : (emitIf b e s).irq = s.irq := rfl
@[simp] theorem emitIf_subrst (b : Bool) (e : OutEvent) (s : State) : (emitIf b e s).subrst = s.subrst := rfl
@[simp] theorem emitIf_iorst (b : Bool) (e : OutEvent) (s : State) : (emitIf b e s).iorst = s.iorst := rfl
@[simp] theorem emitIf_wd (b : Bool) (e : OutEvent) (s : State) : (emitIf b e s).wd = s.wd := rfl
@[simp] theorem emitIf_lamp0 (b : Bool) (e : OutEvent) (s : State) : (emitIf b e s).lamp0 = s.lamp0 := rfl
@[simp] theorem emitIf_lamp1 (b : Bool) (e : OutEvent) (s : State) : (emitIf b e s).lamp1 = s.lamp1 := rfl
@[simp] theorem emitIf_lockout (b : Bool) (e : OutEvent) (s : State) : (emitIf b e s).lockout = s.lockout := rfl
@[simp] theorem emitIf_inp (b : Bool) (e : OutEvent) (s : State) : (emitIf b e s).inp = s.inp := rfl
@[simp] theorem emitIf_mem (b : Bool) (e : OutEvent) (s : State) : (emitIf b e s).mem = s.mem := rfl
@[simp] theorem emitIf_diag (b : Bool) (e : OutEvent) (s : State) : (emitIf b e s).diag = s.diag := rfl
@[simp] theorem emitIf_reply (b : Bool) (e : OutEvent) (s : State) : (emitIf b e s).reply = s.reply := rfl
@[simp] theorem emitIf_draws (b : Bool) (e : OutEvent) (s : State) : (emitIf b e s).draws = s.draws := rfl
@[simp] theorem emitIf_pending (b : Bool) (e : OutEvent) (s : State) : (emitIf b e s).pending = s.pending := rfl

@[simp] theorem raiseDiag_cfg (d : Diag) (s : State) : (raiseDiag d s).cfg = s.cfg := rfl
@[simp] theorem raiseDiag_ie (d : Diag) (s : State) : (raiseDiag d s).ie = s.ie := rfl
@[simp] theorem raiseDiag_irq (d : Diag) (s : State) : (raiseDiag d s).irq = s.irq := rfl
@[simp] theorem raiseDiag_subrst (d : Diag) (s : State) : (raiseDiag d s).subrst = s.subrst := rfl
@[simp] theorem raiseDiag_iorst (d : Diag) (s : State) : (raiseDiag d s).iorst = s.iorst := rfl
@[simp] theorem raiseDiag_wd (d : Diag) (s : State) : (raiseDiag d s).wd = s.wd := rfl
@[simp] theorem raiseDiag_lamp0 (d : Diag) (s : State) : (raiseDiag d s).lamp0 = s.lamp0 := rfl
@[simp] theorem raiseDiag_lamp1 (d : Diag) (s : State) : (raiseDiag d s).lamp1 = s.lamp1 := rfl
@[simp] theorem raiseDiag_lockout (d : Diag) (s : State) : (raiseDiag d s).lockout = s.lockout := rfl
@[simp] theorem raiseDiag_inp (d : Diag) (s : State) : (raiseDiag d s).inp = s.inp := rfl
@[simp] theorem raiseDiag_mem (d : Diag) (s : State) : (raiseDiag d s).mem = s.mem := rfl
@[simp] theorem raiseDiag_out (d : Diag) (s : State) : (raiseDiag d s).out = s.out := rfl
@[simp] theorem raiseDiag_reply (d : Diag) (s : State) : (raiseDiag d s).reply = s.reply := rfl
@[simp] theorem raiseDiag_draws (d : Diag) (s : State) : (raiseDiag d s).draws = s.draws := rfl
@[simp] theorem raiseDiag_pending (d : Diag) (s : State) : (raiseDiag d s).pending = s.pending := rfl

@[simp] theorem answer_cfg (p : Proc) (v : Byte) (s : State) : (answer p v s).cfg = s.cfg := rfl
@[simp] theorem answer_ie (p : Proc) (v : Byte) (s : State) : (answer p v s).ie = s.ie := rfl
@[simp] theorem answer_irq (p : Proc) (v : Byte) (s : State) : (answer p v s).irq = s.irq := rfl
@[simp] theorem answer_subrst (p : Proc) (v : Byte) (s : State) : (answer p v s).subrst = s.subrst := rfl
@[simp] theorem answer_iorst (p : Proc) (v : Byte) (s : State) : (answer p v s).iorst = s.iorst := rfl
@[simp] theorem answer_wd (p : Proc) (v : Byte) (s : State) : (answer p v s).wd = s.wd := rfl
@[simp] theorem answer_lamp0 (p : Proc) (v : Byte) (s : State) : (answer p v s).lamp0 = s.lamp0 := rfl
@[simp] theorem answer_lamp1 (p : Proc) (v : Byte) (s : State) : (answer p v s).lamp1 = s.lamp1 := rfl
@[simp] theorem answer_lockout (p : Proc) (v : Byte) (s : State) : (answer p v s).lockout = s.lockout := rfl
@[simp] theorem answer_inp (p : Proc) (v : Byte) (s : State) : (answer p v s).inp = s.inp := rfl
@[simp] theorem answer_mem (p : Proc) (v : Byte) (s : State) : (answer p v s).mem = s.mem := rfl
@[simp] theorem answer_diag (p : Proc) (v : Byte) (s : State) : (answer p v s).diag = s.diag := rfl
@[simp] theorem answer_out (p : Proc) (v : Byte) (s : State) : (answer p v s).out = s.out := rfl
@[simp] theorem answer_draws (p : Proc) (v : Byte) (s : State) : (answer p v s).draws = s.draws := rfl
@[simp] theorem answer_pending (p : Proc) (v : Byte) (s : State) : (answer p v s).pending = s.pending := rfl

@[simp] theorem answerDraw_cfg (p : Proc) (s : State) : (answerDraw p s).cfg = s.cfg := rfl
@[simp] theorem answerDraw_ie (p : Proc) (s : State) : (answerDraw p s).ie = s.ie := rfl
@[simp] theorem answerDraw_irq (p : Proc) (s : State) : (answerDraw p s).irq = s.irq := rfl
@[simp] theorem answerDraw_subrst (p : Proc) (s : State) : (answerDraw p s).subrst = s.subrst := rfl
@[simp] theorem answerDraw_iorst (p : Proc) (s : State) : (answerDraw p s).iorst = s.iorst := rfl
@[simp] theorem answerDraw_wd (p : Proc) (s : State) : (answerDraw p s).wd = s.wd := rfl
@[simp] theorem answerDraw_lamp0 (p : Proc) (s : State) : (answerDraw p s).lamp0 = s.lamp0 := rfl
@[simp] theorem answerDraw_lamp1 (p : Proc) (s : State) : (answerDraw p s).lamp1 = s.lamp1 := rfl
@[simp] theorem answerDraw_lockout (p : Proc) (s : State) : (answerDraw p s).lockout = s.lockout := rfl
@[simp] theorem answerDraw_inp (p : Proc) (s : State) : (answerDraw p s).inp = s.inp := rfl
@[simp] theorem answerDraw_mem (p : Proc) (s : State) : (answerDraw p s).mem = s.mem := rfl
@[simp] theorem answerDraw_diag (p : Proc) (s : State) : (answerDraw p s).diag = s.diag := rfl
@[simp] theorem answerDraw_out (p : Proc) (s : State) : (answerDraw p s).out = s.out := rfl
@[simp] theorem answerDraw_pending (p : Proc) (s : State) : (answerDraw p s).pending = s.pending := rfl

@[simp] theorem notAdmitted_cfg (p : Proc) (s : State) : (notAdmitted p s).cfg = s.cfg := rfl
@[simp] theorem notAdmitted_ie (p : Proc) (s : State) : (notAdmitted p s).ie = s.ie := rfl
@[simp] theorem notAdmitted_irq (p : Proc) (s : State) : (notAdmitted p s).irq = s.irq := rfl
@[simp] theorem notAdmitted_subrst (p : Proc) (s : State) : (notAdmitted p s).subrst = s.subrst := rfl
@[simp] theorem notAdmitted_iorst (p : Proc) (s : State) : (notAdmitted p s).iorst = s.iorst := rfl
@[simp] theorem notAdmitted_wd (p : Proc) (s : State) : (notAdmitted p s).wd = s.wd := rfl
@[simp] theorem notAdmitted_lamp0 (p : Proc) (s : State) : (notAdmitted p s).lamp0 = s.lamp0 := rfl
@[simp] theorem notAdmitted_lamp1 (p : Proc) (s : State) : (notAdmitted p s).lamp1 = s.lamp1 := rfl
@[simp] theorem notAdmitted_lockout (p : Proc) (s : State) : (notAdmitted p s).lockout = s.lockout := rfl
@[simp] theorem notAdmitted_inp (p : Proc) (s : State) : (notAdmitted p s).inp = s.inp := rfl
@[simp] theorem notAdmitted_mem (p : Proc) (s : State) : (notAdmitted p s).mem = s.mem := rfl
@[simp] theorem notAdmitted_diag (p : Proc) (s : State) : (notAdmitted p s).diag = s.diag := rfl
@[simp] theorem notAdmitted_out (p : Proc) (s : State) : (notAdmitted p s).out = s.out := rfl
@[simp] theorem notAdmitted_draws (p : Proc) (s : State) : (notAdmitted p s).draws = s.draws := rfl
@[simp] theorem notAdmitted_pending (p : Proc) (s : State) : (notAdmitted p s).pending = s.pending := rfl

@[simp] theorem taken_cfg (s : State) (rest : List TxWord) : (taken s rest).cfg = s.cfg := rfl
@[simp] theorem taken_ie (s : State) (rest : List TxWord) : (taken s rest).ie = s.ie := rfl
@[simp] theorem taken_irq (s : State) (rest : List TxWord) : (taken s rest).irq = s.irq := rfl
@[simp] theorem taken_subrst (s : State) (rest : List TxWord) : (taken s rest).subrst = s.subrst := rfl
@[simp] theorem taken_iorst (s : State) (rest : List TxWord) : (taken s rest).iorst = s.iorst := rfl
@[simp] theorem taken_wd (s : State) (rest : List TxWord) : (taken s rest).wd = s.wd := rfl
@[simp] theorem taken_lamp0 (s : State) (rest : List TxWord) : (taken s rest).lamp0 = s.lamp0 := rfl
@[simp] theorem taken_lamp1 (s : State) (rest : List TxWord) : (taken s rest).lamp1 = s.lamp1 := rfl
@[simp] theorem taken_lockout (s : State) (rest : List TxWord) : (taken s rest).lockout = s.lockout := rfl
@[simp] theorem taken_inp (s : State) (rest : List TxWord) : (taken s rest).inp = s.inp := rfl
@[simp] theorem taken_mem (s : State) (rest : List TxWord) : (taken s rest).mem = s.mem := rfl
@[simp] theorem taken_diag (s : State) (rest : List TxWord) : (taken s rest).diag = s.diag := rfl
@[simp] theorem taken_out (s : State) (rest : List TxWord) : (taken s rest).out = s.out := rfl
@[simp] theorem taken_draws (s : State) (rest : List TxWord) : (taken s rest).draws = s.draws := rfl

@[simp] theorem serviceWatchdog_cfg (q : Proc) (s : State) : (serviceWatchdog q s).cfg = s.cfg := rfl
@[simp] theorem serviceWatchdog_ie (q : Proc) (s : State) : (serviceWatchdog q s).ie = s.ie := rfl
@[simp] theorem serviceWatchdog_irq (q : Proc) (s : State) : (serviceWatchdog q s).irq = s.irq := rfl
@[simp] theorem serviceWatchdog_subrst (q : Proc) (s : State) : (serviceWatchdog q s).subrst = s.subrst := rfl
@[simp] theorem serviceWatchdog_iorst (q : Proc) (s : State) : (serviceWatchdog q s).iorst = s.iorst := rfl
@[simp] theorem serviceWatchdog_lamp0 (q : Proc) (s : State) : (serviceWatchdog q s).lamp0 = s.lamp0 := rfl
@[simp] theorem serviceWatchdog_lamp1 (q : Proc) (s : State) : (serviceWatchdog q s).lamp1 = s.lamp1 := rfl
@[simp] theorem serviceWatchdog_lockout (q : Proc) (s : State) : (serviceWatchdog q s).lockout = s.lockout := rfl
@[simp] theorem serviceWatchdog_inp (q : Proc) (s : State) : (serviceWatchdog q s).inp = s.inp := rfl
@[simp] theorem serviceWatchdog_mem (q : Proc) (s : State) : (serviceWatchdog q s).mem = s.mem := rfl
@[simp] theorem serviceWatchdog_diag (q : Proc) (s : State) : (serviceWatchdog q s).diag = s.diag := rfl
@[simp] theorem serviceWatchdog_out (q : Proc) (s : State) : (serviceWatchdog q s).out = s.out := rfl
@[simp] theorem serviceWatchdog_reply (q : Proc) (s : State) : (serviceWatchdog q s).reply = s.reply := rfl
@[simp] theorem serviceWatchdog_draws (q : Proc) (s : State) : (serviceWatchdog q s).draws = s.draws := rfl
@[simp] theorem serviceWatchdog_pending (q : Proc) (s : State) : (serviceWatchdog q s).pending = s.pending := rfl

@[simp] theorem zeroWatchdog_cfg (q : Proc) (s : State) : (zeroWatchdog q s).cfg = s.cfg := rfl
@[simp] theorem zeroWatchdog_ie (q : Proc) (s : State) : (zeroWatchdog q s).ie = s.ie := rfl
@[simp] theorem zeroWatchdog_irq (q : Proc) (s : State) : (zeroWatchdog q s).irq = s.irq := rfl
@[simp] theorem zeroWatchdog_subrst (q : Proc) (s : State) : (zeroWatchdog q s).subrst = s.subrst := rfl
@[simp] theorem zeroWatchdog_iorst (q : Proc) (s : State) : (zeroWatchdog q s).iorst = s.iorst := rfl
@[simp] theorem zeroWatchdog_lamp0 (q : Proc) (s : State) : (zeroWatchdog q s).lamp0 = s.lamp0 := rfl
@[simp] theorem zeroWatchdog_lamp1 (q : Proc) (s : State) : (zeroWatchdog q s).lamp1 = s.lamp1 := rfl
@[simp] theorem zeroWatchdog_lockout (q : Proc) (s : State) : (zeroWatchdog q s).lockout = s.lockout := rfl
@[simp] theorem zeroWatchdog_inp (q : Proc) (s : State) : (zeroWatchdog q s).inp = s.inp := rfl
@[simp] theorem zeroWatchdog_mem (q : Proc) (s : State) : (zeroWatchdog q s).mem = s.mem := rfl
@[simp] theorem zeroWatchdog_diag (q : Proc) (s : State) : (zeroWatchdog q s).diag = s.diag := rfl
@[simp] theorem zeroWatchdog_out (q : Proc) (s : State) : (zeroWatchdog q s).out = s.out := rfl
@[simp] theorem zeroWatchdog_reply (q : Proc) (s : State) : (zeroWatchdog q s).reply = s.reply := rfl
@[simp] theorem zeroWatchdog_draws (q : Proc) (s : State) : (zeroWatchdog q s).draws = s.draws := rfl
@[simp] theorem zeroWatchdog_pending (q : Proc) (s : State) : (zeroWatchdog q s).pending = s.pending := rfl

@[simp] theorem zeroWatchdogs_cfg (s : State) : (zeroWatchdogs s).cfg = s.cfg := by simp [zeroWatchdogs]
@[simp] theorem zeroWatchdogs_ie (s : State) : (zeroWatchdogs s).ie = s.ie := by simp [zeroWatchdogs]
@[simp] theorem zeroWatchdogs_irq (s : State) : (zeroWatchdogs s).irq = s.irq := by simp [zeroWatchdogs]
@[simp] theorem zeroWatchdogs_subrst (s : State) : (zeroWatchdogs s).subrst = s.subrst := by simp [zeroWatchdogs]
@[simp] theorem zeroWatchdogs_iorst (s : State) : (zeroWatchdogs s).iorst = s.iorst := by simp [zeroWatchdogs]
@[simp] theorem zeroWatchdogs_lamp0 (s : State) : (zeroWatchdogs s).lamp0 = s.lamp0 := by simp [zeroWatchdogs]
@[simp] theorem zeroWatchdogs_lamp1 (s : State) : (zeroWatchdogs s).lamp1 = s.lamp1 := by simp [zeroWatchdogs]
@[simp] theorem zeroWatchdogs_lockout (s : State) : (zeroWatchdogs s).lockout = s.lockout := by simp [zeroWatchdogs]
@[simp] theorem zeroWatchdogs_inp (s : State) : (zeroWatchdogs s).inp = s.inp := by simp [zeroWatchdogs]
@[simp] theorem zeroWatchdogs_mem (s : State) : (zeroWatchdogs s).mem = s.mem := by simp [zeroWatchdogs]
@[simp] theorem zeroWatchdogs_diag (s : State) : (zeroWatchdogs s).diag = s.diag := by simp [zeroWatchdogs]
@[simp] theorem zeroWatchdogs_out (s : State) : (zeroWatchdogs s).out = s.out := by simp [zeroWatchdogs]
@[simp] theorem zeroWatchdogs_reply (s : State) : (zeroWatchdogs s).reply = s.reply := by simp [zeroWatchdogs]
@[simp] theorem zeroWatchdogs_draws (s : State) : (zeroWatchdogs s).draws = s.draws := by simp [zeroWatchdogs]
@[simp] theorem zeroWatchdogs_pending (s : State) : (zeroWatchdogs s).pending = s.pending := by simp [zeroWatchdogs]

@[simp] theorem resetPulses_cfg (s : State) : (resetPulses s).cfg = s.cfg := rfl
@[simp] theorem resetPulses_ie (s : State) : (resetPulses s).ie = s.ie := rfl
@[simp] theorem resetPulses_irq (s : State) : (resetPulses s).irq = s.irq := rfl
@[simp] theorem resetPulses_subrst (s : State) : (resetPulses s).subrst = s.subrst := rfl
@[simp] theorem resetPulses_iorst (s : State) : (resetPulses s).iorst = s.iorst := rfl
@[simp] theorem resetPulses_wd (s : State) : (resetPulses s).wd = s.wd := rfl
@[simp] theorem resetPulses_lamp0 (s : State) : (resetPulses s).lamp0 = s.lamp0 := rfl
@[simp] theorem resetPulses_lamp1 (s : State) : (resetPulses s).lamp1 = s.lamp1 := rfl
@[simp] theorem resetPulses_lockout (s : State) : (resetPulses s).lockout = s.lockout := rfl
@[simp] theorem resetPulses_inp (s : State) : (resetPulses s).inp = s.inp := rfl
@[simp] theorem resetPulses_mem (s : State) : (resetPulses s).mem = s.mem := rfl
@[simp] theorem resetPulses_diag (s : State) : (resetPulses s).diag = s.diag := rfl
@[simp] theorem resetPulses_reply (s : State) : (resetPulses s).reply = s.reply := rfl
@[simp] theorem resetPulses_draws (s : State) : (resetPulses s).draws = s.draws := rfl
@[simp] theorem resetPulses_pending (s : State) : (resetPulses s).pending = s.pending := rfl

@[simp] theorem coldInit_cfg (s : State) : (coldInit s).cfg = s.cfg := by simp [coldInit]
@[simp] theorem coldInit_inp (s : State) : (coldInit s).inp = s.inp := by simp [coldInit]
@[simp] theorem coldInit_diag (s : State) : (coldInit s).diag = s.diag := by simp [coldInit]
@[simp] theorem coldInit_reply (s : State) : (coldInit s).reply = s.reply := by simp [coldInit]
@[simp] theorem coldInit_draws (s : State) : (coldInit s).draws = s.draws := by simp [coldInit]
@[simp] theorem coldInit_pending (s : State) : (coldInit s).pending = s.pending := by simp [coldInit]

@[simp] theorem sysReset_cfg (s : State) : (sysReset s).cfg = s.cfg := by simp [sysReset]
@[simp] theorem sysReset_lamp0 (s : State) : (sysReset s).lamp0 = s.lamp0 := by simp [sysReset]
@[simp] theorem sysReset_lamp1 (s : State) : (sysReset s).lamp1 = s.lamp1 := by simp [sysReset]
@[simp] theorem sysReset_lockout (s : State) : (sysReset s).lockout = s.lockout := by simp [sysReset]
@[simp] theorem sysReset_inp (s : State) : (sysReset s).inp = s.inp := by simp [sysReset]
@[simp] theorem sysReset_mem (s : State) : (sysReset s).mem = s.mem := by simp [sysReset]
@[simp] theorem sysReset_diag (s : State) : (sysReset s).diag = s.diag := by simp [sysReset]
@[simp] theorem sysReset_reply (s : State) : (sysReset s).reply = s.reply := by simp [sysReset]
@[simp] theorem sysReset_draws (s : State) : (sysReset s).draws = s.draws := by simp [sysReset]
@[simp] theorem sysReset_pending (s : State) : (sysReset s).pending = s.pending := by simp [sysReset]

@[simp] theorem ioRead_cfg (p : Proc) (slot : Slot) (idx : Nat) (s : State) : (ioRead p slot idx s).cfg = s.cfg := rfl
@[simp] theorem ioRead_ie (p : Proc) (slot : Slot) (idx : Nat) (s : State) : (ioRead p slot idx s).ie = s.ie := rfl
@[simp] theorem ioRead_irq (p : Proc) (slot : Slot) (idx : Nat) (s : State) : (ioRead p slot idx s).irq = s.irq := rfl
@[simp] theorem ioRead_subrst (p : Proc) (slot : Slot) (idx : Nat) (s : State) : (ioRead p slot idx s).subrst = s.subrst := rfl
@[simp] theorem ioRead_iorst (p : Proc) (slot : Slot) (idx : Nat) (s : State) : (ioRead p slot idx s).iorst = s.iorst := rfl
@[simp] theorem ioRead_wd (p : Proc) (slot : Slot) (idx : Nat) (s : State) : (ioRead p slot idx s).wd = s.wd := rfl
@[simp] theorem ioRead_lamp0 (p : Proc) (slot : Slot) (idx : Nat) (s : State) : (ioRead p slot idx s).lamp0 = s.lamp0 := rfl
@[simp] theorem ioRead_lamp1 (p : Proc) (slot : Slot) (idx : Nat) (s : State) : (ioRead p slot idx s).lamp1 = s.lamp1 := rfl
@[simp] theorem ioRead_lockout (p : Proc) (slot : Slot) (idx : Nat) (s : State) : (ioRead p slot idx s).lockout = s.lockout := rfl
@[simp] theorem ioRead_inp (p : Proc) (slot : Slot) (idx : Nat) (s : State) : (ioRead p slot idx s).inp = s.inp := rfl
@[simp] theorem ioRead_mem (p : Proc) (slot : Slot) (idx : Nat) (s : State) : (ioRead p slot idx s).mem = s.mem := rfl
@[simp] theorem ioRead_diag (p : Proc) (slot : Slot) (idx : Nat) (s : State) : (ioRead p slot idx s).diag = s.diag := rfl
@[simp] theorem ioRead_out (p : Proc) (slot : Slot) (idx : Nat) (s : State) : (ioRead p slot idx s).out = s.out := rfl
@[simp] theorem ioRead_draws (p : Proc) (slot : Slot) (idx : Nat) (s : State) : (ioRead p slot idx s).draws = s.draws := rfl
@[simp] theorem ioRead_pending (p : Proc) (slot : Slot) (idx : Nat) (s : State) : (ioRead p slot idx s).pending = s.pending := rfl

@[simp] theorem coinPort0_cfg (d : Byte) (s : State) : (coinPort0 d s).cfg = s.cfg := rfl
@[simp] theorem coinPort0_ie (d : Byte) (s : State) : (coinPort0 d s).ie = s.ie := rfl
@[simp] theorem coinPort0_irq (d : Byte) (s : State) : (coinPort0 d s).irq = s.irq := rfl
@[simp] theorem coinPort0_subrst (d : Byte) (s : State) : (coinPort0 d s).subrst = s.subrst := rfl
@[simp] theorem coinPort0_iorst (d : Byte) (s : State) : (coinPort0 d s).iorst = s.iorst := rfl
@[simp] theorem coinPort0_wd (d : Byte) (s : State) : (coinPort0 d s).wd = s.wd := rfl
@[simp] theorem coinPort0_inp (d : Byte) (s : State) : (coinPort0 d s).inp = s.inp := rfl
@[simp] theorem coinPort0_mem (d : Byte) (s : State) : (coinPort0 d s).mem = s.mem := rfl
@[simp] theorem coinPort0_diag (d : Byte) (s : State) : (coinPort0 d s).diag = s.diag := rfl
@[simp] theorem coinPort0_reply (d : Byte) (s : State) : (coinPort0 d s).reply = s.reply := rfl
@[simp] theorem coinPort0_draws (d : Byte) (s : State) : (coinPort0 d s).draws = s.draws := rfl
@[simp] theorem coinPort0_pending (d : Byte) (s : State) : (coinPort0 d s).pending = s.pending := rfl

@[simp] theorem coinPort1_cfg (d : Byte) (s : State) : (coinPort1 d s).cfg = s.cfg := rfl
@[simp] theorem coinPort1_ie (d : Byte) (s : State) : (coinPort1 d s).ie = s.ie := rfl
@[simp] theorem coinPort1_irq (d : Byte) (s : State) : (coinPort1 d s).irq = s.irq := rfl
@[simp] theorem coinPort1_subrst (d : Byte) (s : State) : (coinPort1 d s).subrst = s.subrst := rfl
@[simp] theorem coinPort1_iorst (d : Byte) (s : State) : (coinPort1 d s).iorst = s.iorst := rfl
@[simp] theorem coinPort1_wd (d : Byte) (s : State) : (coinPort1 d s).wd = s.wd := rfl
@[simp] theorem coinPort1_lamp0 (d : Byte) (s : State) : (coinPort1 d s).lamp0 = s.lamp0 := rfl
@[simp] theorem coinPort1_lamp1 (d : Byte) (s : State) : (coinPort1 d s).lamp1 = s.lamp1 := rfl
@[simp] theorem coinPort1_lockout (d : Byte) (s : State) : (coinPort1 d s).lockout = s.lockout := rfl
@[simp] theorem coinPort1_inp (d : Byte) (s : State) : (coinPort1 d s).inp = s.inp := rfl
@[simp] theorem coinPort1_mem (d : Byte) (s : State) : (coinPort1 d s).mem = s.mem := rfl
@[simp] theorem coinPort1_diag (d : Byte) (s : State) : (coinPort1 d s).diag = s.diag := rfl
@[simp] theorem coinPort1_reply (d : Byte) (s : State) : (coinPort1 d s).reply = s.reply := rfl
@[simp] theorem coinPort1_draws (d : Byte) (s : State) : (coinPort1 d s).draws = s.draws := rfl
@[simp] theorem coinPort1_pending (d : Byte) (s : State) : (coinPort1 d s).pending = s.pending := rfl

@[simp] theorem ioWrite_cfg (slot : Slot) (idx : Nat) (d : Byte) (s : State) : (ioWrite slot idx d s).cfg = s.cfg := by unfold ioWrite; split_ifs <;> (try split) <;> simp
@[simp] theorem ioWrite_ie (slot : Slot) (idx : Nat) (d : Byte) (s : State) : (ioWrite slot idx d s).ie = s.ie := by unfold ioWrite; split_ifs <;> (try split) <;> simp
@[simp] theorem ioWrite_irq (slot : Slot) (idx : Nat) (d : Byte) (s : State) : (ioWrite slot idx d s).irq = s.irq := by unfold ioWrite; split_ifs <;> (try split) <;> simp
@[simp] theorem ioWrite_subrst (slot : Slot) (idx : Nat) (d : Byte) (s : State) : (ioWrite slot idx d s).subrst = s.subrst := by unfold ioWrite; split_ifs <;> (try split) <;> simp
@[simp] theorem ioWrite_iorst (slot : Slot) (idx : Nat) (d : Byte) (s : State) : (ioWrite slot idx d s).iorst = s.iorst := by unfold ioWrite; split_ifs <;> (try split) <;> simp
@[simp] theorem ioWrite_wd (slot : Slot) (idx : Nat) (d : Byte) (s : State) : (ioWrite slot idx d s).wd = s.wd := by unfold ioWrite; split_ifs <;> (try split) <;> simp
@[simp] theorem ioWrite_inp (slot : Slot) (idx : Nat) (d : Byte) (s : State) : (ioWrite slot idx d s).inp = s.inp := by unfold ioWrite; split_ifs <;> (try split) <;> simp
@[simp] theorem ioWrite_mem (slot : Slot) (idx : Nat) (d : Byte) (s : State) : (ioWrite slot idx d s).mem = s.mem := by unfold ioWrite; split_ifs <;> (try split) <;> simp
@[simp] theorem ioWrite_diag (slot : Slot) (idx : Nat) (d : Byte) (s : State) : (ioWrite slot idx d s).diag = s.diag := by unfold ioWrite; split_ifs <;> (try split) <;> simp
@[simp] theorem ioWrite_reply (slot : Slot) (idx : Nat) (d : Byte) (s : State) : (ioWrite slot idx d s).reply = s.reply := by unfold ioWrite; split_ifs <;> (try split) <;> simp
@[simp] theorem ioWrite_draws (slot : Slot) (idx : Nat) (d : Byte) (s : State) : (ioWrite slot idx d s).draws = s.draws := by unfold ioWrite; split_ifs <;> (try split) <;> simp
@[simp] theorem ioWrite_pending (slot : Slot) (idx : Nat) (d : Byte) (s : State) : (ioWrite slot idx d s).pending = s.pending := by unfold ioWrite; split_ifs <;> (try split) <;> simp

@[simp] theorem intCtlWrite_cfg (q : Proc) (lvl : Bool) (s : State) : (intCtlWrite q lvl s).cfg = s.cfg := rfl
@[simp] theorem intCtlWrite_subrst (q : Proc) (lvl : Bool) (s : State) : (intCtlWrite q lvl s).subrst = s.subrst := rfl
@[simp] theorem intCtlWrite_iorst (q : Proc) (lvl : Bool) (s : State) : (intCtlWrite q lvl s).iorst = s.iorst := rfl
@[simp] theorem intCtlWrite_wd (q : Proc) (lvl : Bool) (s : State) : (intCtlWrite q lvl s).wd = s.wd := rfl
@[simp] theorem intCtlWrite_lamp0 (q : Proc) (lvl : Bool) (s : State) : (intCtlWrite q lvl s).lamp0 = s.lamp0 := rfl
@[simp] theorem intCtlWrite_lamp1 (q : Proc) (lvl : Bool) (s : State) : (intCtlWrite q lvl s).lamp1 = s.lamp1 := rfl
@[simp] theorem intCtlWrite_lockout (q : Proc) (lvl : Bool) (s : State) : (intCtlWrite q lvl s).lockout = s.lockout := rfl
@[simp] theorem intCtlWrite_inp (q : Proc) (lvl : Bool) (s : State) : (intCtlWrite q lvl s).inp = s.inp := rfl
@[simp] theorem intCtlWrite_mem (q : Proc) (lvl : Bool) (s : State) : (intCtlWrite q lvl s).mem = s.mem := rfl
@[simp] theorem intCtlWrite_diag (q : Proc) (lvl : Bool) (s : State) : (intCtlWrite q lvl s).diag = s.diag := rfl
@[simp] theorem intCtlWrite_out (q : Proc) (lvl : Bool) (s : State) : (intCtlWrite q lvl s).out = s.out := rfl
@[simp] theorem intCtlWrite_reply (q : Proc) (lvl : Bool) (s : State) : (intCtlWrite q lvl s).reply = s.reply := rfl
@[simp] theorem intCtlWrite_draws (q : Proc) (lvl : Bool) (s : State) : (intCtlWrite q lvl s).draws = s.draws := rfl
@[simp] theorem intCtlWrite_pending (q : Proc) (lvl : Bool) (s : State) : (intCtlWrite q lvl s).pending = s.pending := rfl

@[simp] theorem subRstWrite_cfg (lvl : Bool) (s : State) : (subRstWrite lvl s).cfg = s.cfg := by unfold subRstWrite; split <;> simp
@[simp] theorem subRstWrite_ie (lvl : Bool) (s : State) : (subRstWrite lvl s).ie = s.ie := by unfold subRstWrite; split <;> simp
@[simp] theorem subRstWrite_irq (lvl : Bool) (s : State) : (subRstWrite lvl s).irq = s.irq := by unfold subRstWrite; split <;> simp
@[simp] theorem subRstWrite_iorst (lvl : Bool) (s : State) : (subRstWrite lvl s).iorst = s.iorst := by unfold subRstWrite; split <;> simp
@[simp] theorem subRstWrite_lamp0 (lvl : Bool) (s : State) : (subRstWrite lvl s).lamp0 = s.lamp0 := by unfold subRstWrite; split <;> simp
@[simp] theorem subRstWrite_lamp1 (lvl : Bool) (s : State) : (subRstWrite lvl s).lamp1 = s.lamp1 := by unfold subRstWrite; split <;> simp
@[simp] theorem subRstWrite_lockout (lvl : Bool) (s : State) : (subRstWrite lvl s).lockout = s.lockout := by unfold subRstWrite; split <;> simp
@[simp] theorem subRstWrite_inp (lvl : Bool) (s : State) : (subRstWrite lvl s).inp = s.inp := by unfold subRstWrite; split <;> simp
@[simp] theorem subRstWrite_mem (lvl : Bool) (s : State) : (subRstWrite lvl s).mem = s.mem := by unfold subRstWrite; split <;> simp
@[simp] theorem subRstWrite_diag (lvl : Bool) (s : State) : (subRstWrite lvl s).diag = s.diag := by unfold subRstWrite; split <;> simp
@[simp] theorem subRstWrite_out (lvl : Bool) (s : State) : (subRstWrite lvl s).out = s.out := by unfold subRstWrite; split <;> simp
@[simp] theorem subRstWrite_reply (lvl : Bool) (s : State) : (subRstWrite lvl s).reply = s.reply := by unfold subRstWrite; split <;> simp
@[simp] theorem subRstWrite_draws (lvl : Bool) (s : State) : (subRstWrite lvl s).draws = s.draws := by unfold subRstWrite; split <;> simp
@[simp] theorem subRstWrite_pending (lvl : Bool) (s : State) : (subRstWrite lvl s).pending = s.pending := by unfold subRstWrite; split <;> simp

@[simp] theorem ioRstWrite_cfg (lvl : Bool) (s : State) : (ioRstWrite lvl s).cfg = s.cfg := rfl
@[simp] theorem ioRstWrite_ie (lvl : Bool) (s : State) : (ioRstWrite lvl s).ie = s.ie := rfl
@[simp] theorem ioRstWrite_irq (lvl : Bool) (s : State) : (ioRstWrite lvl s).irq = s.irq := rfl
@[simp] theorem ioRstWrite_subrst (lvl : Bool) (s : State) : (ioRstWrite lvl s).subrst = s.subrst := rfl
@[simp] theorem ioRstWrite_wd (lvl : Bool) (s : State) : (ioRstWrite lvl s).wd = s.wd := rfl
@[simp] theorem ioRstWrite_lamp0 (lvl : Bool) (s : State) : (ioRstWrite lvl s).lamp0 = s.lamp0 := rfl
@[simp] theorem ioRstWrite_lamp1 (lvl : Bool) (s : State) : (ioRstWrite lvl s).lamp1 = s.lamp1 := rfl
@[simp] theorem ioRstWrite_lockout (lvl : Bool) (s : State) : (ioRstWrite lvl s).lockout = s.lockout := rfl
@[simp] theorem ioRstWrite_inp (lvl : Bool) (s : State) : (ioRstWrite lvl s).inp = s.inp := rfl
@[simp] theorem ioRstWrite_mem (lvl : Bool) (s : State) : (ioRstWrite lvl s).mem = s.mem := rfl
@[simp] theorem ioRstWrite_diag (lvl : Bool) (s : State) : (ioRstWrite lvl s).diag = s.diag := rfl
@[simp] theorem ioRstWrite_out (lvl : Bool) (s : State) : (ioRstWrite lvl s).out = s.out := rfl
@[simp] theorem ioRstWrite_reply (lvl : Bool) (s : State) : (ioRstWrite lvl s).reply = s.reply := rfl
@[simp] theorem ioRstWrite_draws (lvl : Bool) (s : State) : (ioRstWrite lvl s).draws = s.draws := rfl
@[simp] theorem ioRstWrite_pending (lvl : Bool) (s : State) : (ioRstWrite lvl s).pending = s.pending := rfl

@[simp] theorem unmappedAccess_cfg (p : Proc) (dir : Dir) (a : Addr) (d : Byte) (s : State) : (unmappedAccess p dir a d s).cfg = s.cfg := by cases dir <;> rfl
@[simp] theorem unmappedAccess_ie (p : Proc) (dir : Dir) (a : Addr) (d : Byte) (s : State) : (unmappedAccess p dir a d s).ie = s.ie := by cases dir <;> rfl
@[simp] theorem unmappedAccess_irq (p : Proc) (dir : Dir) (a : Addr) (d : Byte) (s : State) : (unmappedAccess p dir a d s).irq = s.irq := by cases dir <;> rfl
@[simp] theorem unmappedAccess_subrst (p : Proc) (dir : Dir) (a : Addr) (d : Byte) (s : State) : (unmappedAccess p dir a d s).subrst = s.subrst := by cases dir <;> rfl
@[simp] theorem unmappedAccess_iorst (p : Proc) (dir : Dir) (a : Addr) (d : Byte) (s : State) : (unmappedAccess p dir a d s).iorst = s.iorst := by cases dir <;> rfl
@[simp] theorem unmappedAccess_wd (p : Proc) (dir : Dir) (a : Addr) (d : Byte) (s : State) : (unmappedAccess p dir a d s).wd = s.wd := by cases dir <;> rfl
@[simp] theorem unmappedAccess_lamp0 (p : Proc) (dir : Dir) (a : Addr) (d : Byte) (s : State) : (unmappedAccess p dir a d s).lamp0 = s.lamp0 := by cases dir <;> rfl
@[simp] theorem unmappedAccess_lamp1 (p : Proc) (dir : Dir) (a : Addr) (d : Byte) (s : State) : (unmappedAccess p dir a d s).lamp1 = s.lamp1 := by cases dir <;> rfl
@[simp] theorem unmappedAccess_lockout (p : Proc) (dir : Dir) (a : Addr) (d : Byte) (s : State) : (unmappedAccess p dir a d s).lockout = s.lockout := by cases dir <;> rfl
@[simp] theorem unmappedAccess_inp (p : Proc) (dir : Dir) (a : Addr) (d : Byte) (s : State) : (unmappedAccess p dir a d s).inp = s.inp := by cases dir <;> rfl
@[simp] theorem unmappedAccess_mem (p : Proc) (dir : Dir) (a : Addr) (d : Byte) (s : State) : (unmappedAccess p dir a d s).mem = s.mem := by cases dir <;> rfl
@[simp] theorem unmappedAccess_out (p : Proc) (dir : Dir) (a : Addr) (d : Byte) (s : State) : (unmappedAccess p dir a d s).out = s.out := by cases dir <;> rfl
@[simp] theorem unmappedAccess_pending (p : Proc) (dir : Dir) (a : Addr) (d : Byte) (s : State) : (unmappedAccess p dir a d s).pending = s.pending := by cases dir <;> rfl

@[simp] theorem setInput_cfg (g : Group) (b : Byte) (s : State) : (setInput g b s).cfg = s.cfg := rfl
@[simp] theorem setInput_ie (g : Group) (b : Byte) (s : State) : (setInput g b s).ie = s.ie := rfl
@[simp] theorem setInput_irq (g : Group) (b : Byte) (s : State) : (setInput g b s).irq = s.irq := rfl
@[simp] theorem setInput_subrst (g : Group) (b : Byte) (s : State) : (setInput g b s).subrst = s.subrst := rfl
@[simp] theorem setInput_iorst (g : Group) (b : Byte) (s : State) : (setInput g b s).iorst = s.iorst := rfl
@[simp] theorem setInput_wd (g : Group) (b : Byte) (s : State) : (setInput g b s).wd = s.wd := rfl
@[simp] theorem setInput_lamp0 (g : Group) (b : Byte) (s : State) : (setInput g b s).lamp0 = s.lamp0 := rfl
@[simp] theorem setInput_lamp1 (g : Group) (b : Byte) (s : State) : (setInput g b s).lamp1 = s.lamp1 := rfl
@[simp] theorem setInput_lockout (g : Group) (b : Byte) (s : State) : (setInput g b s).lockout = s.lockout := rfl
@[simp] theorem setInput_mem (g : Group) (b : Byte) (s : State) : (setInput g b s).mem = s.mem := rfl
@[simp] theorem setInput_diag (g : Group) (b : Byte) (s : State) : (setInput g b s).diag = s.diag := rfl
@[simp] theorem setInput_out (g : Group) (b : Byte) (s : State) : (setInput g b s).out = s.out := rfl
@[simp] theorem setInput_reply (g : Group) (b : Byte) (s : State) : (setInput g b s).reply = s.reply := rfl
@[simp] theorem setInput_draws (g : Group) (b : Byte) (s : State) : (setInput g b s).draws = s.draws := rfl
@[simp] theorem setInput_pending (g : Group) (b : Byte) (s : State) : (setInput g b s).pending = s.pending := rfl

@[simp] theorem frameInterrupts_cfg (s : State) : (frameInterrupts s).cfg = s.cfg := rfl
@[simp] theorem frameInterrupts_ie (s : State) : (frameInterrupts s).ie = s.ie := rfl
@[simp] theorem frameInterrupts_subrst (s : State) : (frameInterrupts s).subrst = s.subrst := rfl
@[simp] theorem frameInterrupts_iorst (s : State) : (frameInterrupts s).iorst = s.iorst := rfl
@[simp] theorem frameInterrupts_wd (s : State) : (frameInterrupts s).wd = s.wd := rfl
@[simp] theorem frameInterrupts_lamp0 (s : State) : (frameInterrupts s).lamp0 = s.lamp0 := rfl
@[simp] theorem frameInterrupts_lamp1 (s : State) : (frameInterrupts s).lamp1 = s.lamp1 := rfl
@[simp] theorem frameInterrupts_lockout (s : State) : (frameInterrupts s).lockout = s.lockout := rfl
@[simp] theorem frameInterrupts_inp (s : State) : (frameInterrupts s).inp = s.inp := rfl
@[simp] theorem frameInterrupts_mem (s : State) : (frameInterrupts s).mem = s.mem := rfl
@[simp] theorem frameInterrupts_diag (s : State) : (frameInterrupts s).diag = s.diag := rfl
@[simp] theorem frameInterrupts_out (s : State) : (frameInterrupts s).out = s.out := rfl
@[simp] theorem frameInterrupts_reply (s : State) : (frameInterrupts s).reply = s.reply := rfl
@[simp] theorem frameInterrupts_draws (s : State) : (frameInterrupts s).draws = s.draws := rfl
@[simp] theorem frameInterrupts_pending (s : State) : (frameInterrupts s).pending = s.pending := rfl

@[simp] theorem pulseInterrupt_cfg (slot : Slot) (q : Proc) (s : State) : (pulseInterrupt slot q s).cfg = s.cfg := rfl
@[simp] theorem pulseInterrupt_ie (slot : Slot) (q : Proc) (s : State) : (pulseInterrupt slot q s).ie = s.ie := rfl
@[simp] theorem pulseInterrupt_irq (slot : Slot) (q : Proc) (s : State) : (pulseInterrupt slot q s).irq = s.irq := rfl
@[simp] theorem pulseInterrupt_subrst (slot : Slot) (q : Proc) (s : State) : (pulseInterrupt slot q s).subrst = s.subrst := rfl
@[simp] theorem pulseInterrupt_iorst (slot : Slot) (q : Proc) (s : State) : (pulseInterrupt slot q s).iorst = s.iorst := rfl
@[simp] theorem pulseInterrupt_wd (slot : Slot) (q : Proc) (s : State) : (pulseInterrupt slot q s).wd = s.wd := rfl
@[simp] theorem pulseInterrupt_lamp0 (slot : Slot) (q : Proc) (s : State) : (pulseInterrupt slot q s).lamp0 = s.lamp0 := rfl
@[simp] theorem pulseInterrupt_lamp1 (slot : Slot) (q : Proc) (s : State) : (pulseInterrupt slot q s).lamp1 = s.lamp1 := rfl
@[simp] theorem pulseInterrupt_lockout (slot : Slot) (q : Proc) (s : State) : (pulseInterrupt slot q s).lockout = s.lockout := rfl
@[simp] theorem pulseInterrupt_inp (slot : Slot) (q : Proc) (s : State) : (pulseInterrupt slot q s).inp = s.inp := rfl
@[simp] theorem pulseInterrupt_mem (slot : Slot) (q : Proc) (s : State) : (pulseInterrupt slot q s).mem = s.mem := rfl
@[simp] theorem pulseInterrupt_diag (slot : Slot) (q : Proc) (s : State) : (pulseInterrupt slot q s).diag = s.diag := rfl
@[simp] theorem pulseInterrupt_reply (slot : Slot) (q : Proc) (s : State) : (pulseInterrupt slot q s).reply = s.reply := rfl
@[simp] theorem pulseInterrupt_draws (slot : Slot) (q : Proc) (s : State) : (pulseInterrupt slot q s).draws = s.draws := rfl
@[simp] theorem pulseInterrupt_pending (slot : Slot) (q : Proc) (s : State) : (pulseInterrupt slot q s).pending = s.pending := rfl

@[simp] theorem chipPulses_cfg (s : State) : (chipPulses s).cfg = s.cfg := by simp [chipPulses]
@[simp] theorem chipPulses_ie (s : State) : (chipPulses s).ie = s.ie := by simp [chipPulses]
@[simp] theorem chipPulses_irq (s : State) : (chipPulses s).irq = s.irq := by simp [chipPulses]
@[simp] theorem chipPulses_subrst (s : State) : (chipPulses s).subrst = s.subrst := by simp [chipPulses]
@[simp] theorem chipPulses_iorst (s : State) : (chipPulses s).iorst = s.iorst := by simp [chipPulses]
@[simp] theorem chipPulses_wd (s : State) : (chipPulses s).wd = s.wd := by simp [chipPulses]
@[simp] theorem chipPulses_lamp0 (s : State) : (chipPulses s).lamp0 = s.lamp0 := by simp [chipPulses]
@[simp] theorem chipPulses_lamp1 (s : State) : (chipPulses s).lamp1 = s.lamp1 := by simp [chipPulses]
@[simp] theorem chipPulses_lockout (s : State) : (chipPulses s).lockout = s.lockout := by simp [chipPulses]
@[simp] theorem chipPulses_inp (s : State) : (chipPulses s).inp = s.inp := by simp [chipPulses]
@[simp] theorem chipPulses_mem (s : State) : (chipPulses s).mem = s.mem := by simp [chipPulses]
@[simp] theorem chipPulses_diag (s : State) : (chipPulses s).diag = s.diag := by simp [chipPulses]
@[simp] theorem chipPulses_reply (s : State) : (chipPulses s).reply = s.reply := by simp [chipPulses]
@[simp] theorem chipPulses_draws (s : State) : (chipPulses s).draws = s.draws := by simp [chipPulses]
@[simp] theorem chipPulses_pending (s : State) : (chipPulses s).pending = s.pending := by simp [chipPulses]

@[simp] theorem countWatchdog_cfg (q : Proc) (s : State) : (countWatchdog q s).cfg = s.cfg := rfl
@[simp] theorem countWatchdog_ie (q : Proc) (s : State) : (countWatchdog q s).ie = s.ie := rfl
@[simp] theorem countWatchdog_irq (q : Proc) (s : State) : (countWatchdog q s).irq = s.irq := rfl
@[simp] theorem countWatchdog_subrst (q : Proc) (s : State) : (countWatchdog q s).subrst = s.subrst := rfl
@[simp] theorem countWatchdog_iorst (q : Proc) (s : State) : (countWatchdog q s).iorst = s.iorst := rfl
@[simp] theorem countWatchdog_lamp0 (q : Proc) (s : State) : (countWatchdog q s).lamp0 = s.lamp0 := rfl
@[simp] theorem countWatchdog_lamp1 (q : Proc) (s : State) : (countWatchdog q s).lamp1 = s.lamp1 := rfl
@[simp] theorem countWatchdog_lockout (q : Proc) (s : State) : (countWatchdog q s).lockout = s.lockout := rfl
@[simp] theorem countWatchdog_inp (q : Proc) (s : State) : (countWatchdog q s).inp = s.inp := rfl
@[simp] theorem countWatchdog_mem (q : Proc) (s : State) : (countWatchdog q s).mem = s.mem := rfl
@[simp] theorem countWatchdog_diag (q : Proc) (s : State) : (countWatchdog q s).diag = s.diag := rfl
@[simp] theorem countWatchdog_out (q : Proc) (s : State) : (countWatchdog q s).out = s.out := rfl
@[simp] theorem countWatchdog_reply (q : Proc) (s : State) : (countWatchdog q s).reply = s.reply := rfl
@[simp] theorem countWatchdog_draws (q : Proc) (s : State) : (countWatchdog q s).draws = s.draws := rfl
@[simp] theorem countWatchdog_pending (q : Proc) (s : State) : (countWatchdog q s).pending = s.pending := rfl

@[simp] theorem countWatchdogs_cfg (s : State) : (countWatchdogs s).cfg = s.cfg := by simp [countWatchdogs]
@[simp] theorem countWatchdogs_ie (s : State) : (countWatchdogs s).ie = s.ie := by simp [countWatchdogs]
@[simp] theorem countWatchdogs_irq (s : State) : (countWatchdogs s).irq = s.irq := by simp [countWatchdogs]
@[simp] theorem countWatchdogs_subrst (s : State) : (countWatchdogs s).subrst = s.subrst := by simp [countWatchdogs]
@[simp] theorem countWatchdogs_iorst (s : State) : (countWatchdogs s).iorst = s.iorst := by simp [countWatchdogs]
@[simp] theorem countWatchdogs_lamp0 (s : State) : (countWatchdogs s).lamp0 = s.lamp0 := by simp [countWatchdogs]
@[simp] theorem countWatchdogs_lamp1 (s : State) : (countWatchdogs s).lamp1 = s.lamp1 := by simp [countWatchdogs]
@[simp] theorem countWatchdogs_lockout (s : State) : (countWatchdogs s).lockout = s.lockout := by simp [countWatchdogs]
@[simp] theorem countWatchdogs_inp (s : State) : (countWatchdogs s).inp = s.inp := by simp [countWatchdogs]
@[simp] theorem countWatchdogs_mem (s : State) : (countWatchdogs s).mem = s.mem := by simp [countWatchdogs]
@[simp] theorem countWatchdogs_diag (s : State) : (countWatchdogs s).diag = s.diag := by simp [countWatchdogs]
@[simp] theorem countWatchdogs_out (s : State) : (countWatchdogs s).out = s.out := by simp [countWatchdogs]
@[simp] theorem countWatchdogs_reply (s : State) : (countWatchdogs s).reply = s.reply := by simp [countWatchdogs]
@[simp] theorem countWatchdogs_draws (s : State) : (countWatchdogs s).draws = s.draws := by simp [countWatchdogs]
@[simp] theorem countWatchdogs_pending (s : State) : (countWatchdogs s).pending = s.pending := by simp [countWatchdogs]


/-! ### Fields an update writes -/

@[simp] theorem regionWrite_mem (s : State) (r : Region) (off : Nat) (v : Byte) :
    (regionWrite s r off v).mem = s.mem.set r (Memory.write (s.mem.get r) off v) := rfl
@[simp] theorem emit_out (e : OutEvent) (s : State) : (emit e s).out = s.out ++ [e] := rfl
theorem emitIf_out (b : Bool) (e : OutEvent) (s : State) :
    (emitIf b e s).out = if b then s.out ++ [e] else s.out := rfl
@[simp] theorem raiseDiag_diag (d : Diag) (s : State) : (raiseDiag d s).diag = s.diag ++ [d] := rfl
@[simp] theorem answer_reply (p : Proc) (v : Byte) (s : State) : (answer p v s).reply = .data p v := rfl
@[simp] theorem answerDraw_reply (p : Proc) (s : State) :
    (answerDraw p s).reply = .data p (Config.freeByte s.draws) := rfl
@[simp] theorem answerDraw_draws (p : Proc) (s : State) : (answerDraw p s).draws = s.draws + 1 := rfl
@[simp] theorem notAdmitted_reply (p : Proc) (s : State) : (notAdmitted p s).reply = .held p := rfl
@[simp] theorem taken_reply (s : State) (rest : List TxWord) : (taken s rest).reply = .none := rfl
@[simp] theorem taken_pending (s : State) (rest : List TxWord) : (taken s rest).pending = rest := rfl
@[simp] theorem serviceWatchdog_wd (q : Proc) (s : State) : (serviceWatchdog q s).wd = s.wd.set q 0 := rfl
@[simp] theorem resetPulses_out (s : State) :
    (resetPulses s).out = s.out ++ [.resetPulse .p0, .resetPulse .p1, .resetPulse .p2] := by
  simp [resetPulses, emit]

theorem zeroWatchdog_wd (q : Proc) (s : State) :
    (zeroWatchdog q s).wd = if s.cfg.wdHas.get q then s.wd.set q 0 else s.wd := by
  unfold zeroWatchdog; split <;> rfl

/-- Zeroing every counter of WD_HAS, one counter at a time. -/
theorem zeroWatchdogs_wd_get (s : State) (q : Proc) :
    (zeroWatchdogs s).wd.get q = if s.cfg.wdHas.get q then 0 else s.wd.get q := by
  cases q <;> simp only [zeroWatchdogs, zeroWatchdog_wd, zeroWatchdog_cfg] <;>
    split_ifs <;> simp_all [PerProc.get, PerProc.set]

@[simp] theorem coldInit_ie (s : State) : (coldInit s).ie = ⟨false, false, false⟩ := by simp [coldInit]
@[simp] theorem coldInit_irq (s : State) : (coldInit s).irq = ⟨false, false, false⟩ := by simp [coldInit]
@[simp] theorem coldInit_subrst (s : State) : (coldInit s).subrst = true := by simp [coldInit]
@[simp] theorem coldInit_iorst (s : State) : (coldInit s).iorst = s.cfg.ioRstPowerOn := by simp [coldInit]
@[simp] theorem coldInit_lamp0 (s : State) : (coldInit s).lamp0 = false := by simp [coldInit]
@[simp] theorem coldInit_lamp1 (s : State) : (coldInit s).lamp1 = false := by simp [coldInit]
@[simp] theorem coldInit_lockout (s : State) : (coldInit s).lockout = false := by simp [coldInit]
@[simp] theorem coldInit_mem (s : State) : (coldInit s).mem = ⟨[], [], [], []⟩ := by simp [coldInit]
@[simp] theorem coldInit_out (s : State) :
    (coldInit s).out = s.out ++ [.resetPulse .p0, .resetPulse .p1, .resetPulse .p2] := by simp [coldInit]
theorem coldInit_wd_get (s : State) (q : Proc) :
    (coldInit s).wd.get q = if s.cfg.wdHas.get q then 0 else s.wd.get q := by
  simp [coldInit, zeroWatchdogs_wd_get]

@[simp] theorem sysReset_ie (s : State) : (sysReset s).ie = s.ie.set .p1 false := by simp [sysReset]
@[simp] theorem sysReset_irq (s : State) : (sysReset s).irq = s.irq.set .p1 false := by simp [sysReset]
@[simp] theorem sysReset_subrst (s : State) : (sysReset s).subrst = (s.cfg.sysResetSubRst || s.subrst) := by
  simp [sysReset]
@[simp] theorem sysReset_iorst (s : State) : (sysReset s).iorst = (s.cfg.sysResetIoRst || s.iorst) := by
  simp [sysReset]
@[simp] theorem sysReset_out (s : State) :
    (sysReset s).out = s.out ++ [.resetPulse .p0, .resetPulse .p1, .resetPulse .p2] := by simp [sysReset]
theorem sysReset_wd_get (s : State) (q : Proc) :
    (sysReset s).wd.get q = if s.cfg.wdHas.get q then 0 else s.wd.get q := by
  simp [sysReset, zeroWatchdogs_wd_get]

@[simp] theorem ioRead_reply (p : Proc) (slot : Slot) (idx : Nat) (s : State) :
    (ioRead p slot idx s).reply = .data p (ioReadValue s slot idx) := rfl
@[simp] theorem coinPort0_lamp0 (d : Byte) (s : State) : (coinPort0 d s).lamp0 = dataBit d 0 := rfl
@[simp] theorem coinPort0_lamp1 (d : Byte) (s : State) : (coinPort0 d s).lamp1 = dataBit d 1 := rfl
@[simp] theorem coinPort0_lockout (d : Byte) (s : State) : (coinPort0 d s).lockout = dataBit d 2 := rfl
theorem coinPort0_out (d : Byte) (s : State) :
    (coinPort0 d s).out = if dataBit d 3 then s.out else s.out ++ [.coinPulse 0] := by
  simp only [coinPort0, emitIf]; cases dataBit d 3 <;> rfl
theorem coinPort1_out (d : Byte) (s : State) :
    (coinPort1 d s).out = if dataBit d s.cfg.coin1Bit.val then s.out else s.out ++ [.coinPulse 1] := by
  simp only [coinPort1, emitIf]; cases dataBit d s.cfg.coin1Bit.val <;> rfl

@[simp] theorem intCtlWrite_ie (q : Proc) (lvl : Bool) (s : State) : (intCtlWrite q lvl s).ie = s.ie.set q lvl := rfl
@[simp] theorem intCtlWrite_irq (q : Proc) (lvl : Bool) (s : State) :
    (intCtlWrite q lvl s).irq = if lvl then s.irq else s.irq.set q false := rfl
@[simp] theorem subRstWrite_subrst (lvl : Bool) (s : State) : (subRstWrite lvl s).subrst = !lvl := by
  unfold subRstWrite; split <;> simp_all
theorem subRstWrite_wd_get (lvl : Bool) (s : State) (q : Proc) :
    (subRstWrite lvl s).wd.get q =
      if lvl = false ∧ q ≠ .p0 ∧ s.cfg.wdHas.get q = true then 0 else s.wd.get q := by
  cases lvl
  · cases q <;> simp [subRstWrite, zeroWatchdog_wd, PerProc.get] <;> split_ifs <;> simp_all [PerProc.set]
  · simp [subRstWrite]
@[simp] theorem ioRstWrite_iorst (lvl : Bool) (s : State) : (ioRstWrite lvl s).iorst = !lvl := rfl
@[simp] theorem unmappedAccess_diag (p : Proc) (dir : Dir) (a : Addr) (d : Byte) (s : State) :
    (unmappedAccess p dir a d s).diag = s.diag ++ [⟨1, p, dir, a, d⟩] := by cases dir <;> rfl
@[simp] theorem setInput_inp (g : Group) (b : Byte) (s : State) : (setInput g b s).inp = s.inp.set g b := rfl

theorem frameInterrupts_irq_get (s : State) (q : Proc) :
    (frameInterrupts s).irq.get q = (s.irq.get q || s.ie.get q) := by cases q <;> rfl
theorem chipPulses_out (s : State) :
    (chipPulses s).out = if s.iorst then s.out else
      s.out ++ [.chipIrqPulse .s0 s.cfg.chipIrqRoute0, .chipIrqPulse .s1 s.cfg.chipIrqRoute1] := by
  cases h : s.iorst <;> simp [chipPulses, pulseInterrupt, emitIf, h]
theorem countWatchdog_wd (q : Proc) (s : State) :
    (countWatchdog q s).wd = if counts s q then s.wd.set q (s.wd.get q + 1) else s.wd := by
  unfold countWatchdog; split <;> rfl

/-- Whether a watchdog counts depends on WD_HAS and the reset lines alone. -/
theorem counts_congr {s t : State} (hc : t.cfg = s.cfg) (hr : t.subrst = s.subrst) (q : Proc) :
    counts t q = counts s q := by
  cases q <;> simp [counts, resetLine, hc, hr]

/-- One TICK's counting, one counter at a time. -/
theorem countWatchdogs_wd_get (s : State) (q : Proc) :
    (countWatchdogs s).wd.get q = if counts s q then s.wd.get q + 1 else s.wd.get q := by
  have h0 : ∀ p, counts (countWatchdog .p0 s) p = counts s p := counts_congr (by simp) (by simp)
  have h1 : ∀ p, counts (countWatchdog .p1 (countWatchdog .p0 s)) p = counts s p := counts_congr (by simp) (by simp)
  cases q <;> simp only [countWatchdogs, countWatchdog_wd, h0, h1] <;>
    split_ifs <;> simp_all [PerProc.get, PerProc.set]

end Sys2Proof.Machine
end

