-- ==== Sys2Proof/Laws/Decoder.lean ====
section
/-! SUPPORT. Laws/Decoder: masks as arithmetic, and the reference tables (R84) as arithmetic on the address. -/

namespace Sys2Proof.Machine

/-- Masking with the high bits from bit `k` on keeps the multiple of `2^k`. -/
theorem toNat_and_high {n : Nat} (a : BitVec n) (k : Nat) :
    (a &&& (BitVec.allOnes n <<< k)).toNat = a.toNat / 2 ^ k * 2 ^ k := by
  have h : a &&& (BitVec.allOnes n <<< k) = (a >>> k) <<< k := by
    apply BitVec.eq_of_getLsbD_eq
    intro i hi
    simp only [BitVec.getLsbD_and, BitVec.getLsbD_shiftLeft, BitVec.getLsbD_allOnes, BitVec.getLsbD_ushiftRight]
    by_cases h1 : i < k
    · simp [h1]
    · have : k + (i - k) = i := by omega
      have h3 : i - k < n := by omega
      simp [h1, this, hi, h3]
  rw [h, BitVec.toNat_shiftLeft, BitVec.toNat_ushiftRight, Nat.shiftRight_eq_div_pow, Nat.shiftLeft_eq]
  exact Nat.mod_eq_of_lt (lt_of_le_of_lt (Nat.div_mul_le_self _ _) a.isLt)

/-- Whether a number matches a row or a window that decodes the bits from bit `k` on, as arithmetic. -/
theorem hit_high {n : Nat} (a m v : BitVec n) (k : Nat) (hm : m = BitVec.allOnes n <<< k)
    (hv : v.toNat % 2 ^ k = 0) : (a &&& m == v) = decide (a.toNat / 2 ^ k = v.toNat / 2 ^ k) := by
  have hv' : v.toNat / 2 ^ k * 2 ^ k = v.toNat := Nat.div_mul_cancel (Nat.dvd_of_mod_eq_zero hv)
  rw [Bool.eq_iff_iff, beq_iff_eq, decide_eq_true_iff, ← BitVec.toNat_inj, hm, toNat_and_high a k]
  constructor
  · intro h
    rw [← h, Nat.mul_div_cancel _ (Nat.two_pow_pos k)]
  · intro h
    rw [h, hv']

theorem hit_F800 (a v : Addr) (hv : v.toNat % 2048 = 0) :
    (a &&& 0xF800#16 == v) = decide (a.toNat / 2048 = v.toNat / 2048) := hit_high a _ v 11 rfl hv
theorem hit_FFF0 (a v : Addr) (hv : v.toNat % 16 = 0) :
    (a &&& 0xFFF0#16 == v) = decide (a.toNat / 16 = v.toNat / 16) := hit_high a _ v 4 rfl hv
theorem hit_F000 (a v : Addr) (hv : v.toNat % 4096 = 0) :
    (a &&& 0xF000#16 == v) = decide (a.toNat / 4096 = v.toNat / 4096) := hit_high a _ v 12 rfl hv
theorem hit_8000 (a v : Addr) (hv : v.toNat % 32768 = 0) :
    (a &&& 0x8000#16 == v) = decide (a.toNat / 32768 = v.toNat / 32768) := hit_high a _ v 15 rfl hv
theorem hit_E000 (a v : Addr) (hv : v.toNat % 8192 = 0) :
    (a &&& 0xE000#16 == v) = decide (a.toNat / 8192 = v.toNat / 8192) := hit_high a _ v 13 rfl hv
theorem hit_FC00 (a v : Addr) (hv : v.toNat % 1024 = 0) :
    (a &&& 0xFC00#16 == v) = decide (a.toNat / 1024 = v.toNat / 1024) := hit_high a _ v 10 rfl hv
theorem hit_C000 (a v : Addr) (hv : v.toNat % 16384 = 0) :
    (a &&& 0xC000#16 == v) = decide (a.toNat / 16384 = v.toNat / 16384) := hit_high a _ v 14 rfl hv

/-! Masking with a low mask is a remainder. -/

theorem low_07FF (n : Nat) : n &&& 2047 = n % 2048 := Nat.and_two_pow_sub_one_eq_mod n 11
theorem low_03FF (n : Nat) : n &&& 1023 = n % 1024 := Nat.and_two_pow_sub_one_eq_mod n 10
theorem low_0003 (n : Nat) : n &&& 3 = n % 4 := Nat.and_two_pow_sub_one_eq_mod n 2
theorem low_7FFF (n : Nat) : n &&& 32767 = n % 32768 := Nat.and_two_pow_sub_one_eq_mod n 15
theorem low_1FFF (n : Nat) : n &&& 8191 = n % 8192 := Nat.and_two_pow_sub_one_eq_mod n 13

/-- The number of an address whose high bits are fixed. -/
theorem toNat_append_low {n k : Nat} (h : BitVec n) (l : BitVec k) :
    (h ++ l).toNat = h.toNat * 2 ^ k + l.toNat := by
  rw [BitVec.toNat_append, Nat.shiftLeft_eq, Nat.mul_comm, ← Nat.two_pow_add_eq_or_of_lt l.isLt]

/-- Decoding under REFCFG's tables. -/
theorem decodeAddr_ref {c : Config} (h : c.decode = refDecode) (p : Proc) (dir : Dir) (a : Addr) :
    decodeAddr c p dir a = decodeWindows (refDecode.get p) dir a := by
  rw [decodeAddr, h]

/-! ### The reference tables as arithmetic (R84) -/

/-- P0, reads. -/
theorem refTarget_p0_r (a : Addr) : decodeWindows refDecodeP0 .r a =
    if a.toNat / 2048 = 0 then .shared .vram (a.toNat % 2048)
    else if a.toNat / 2048 = 1 then .shared .wramA (a.toNat % 2048)
    else if a.toNat / 2048 = 2 then .shared .wramB (a.toNat % 2048)
    else if a.toNat / 2048 = 8 then .shared .snd (a.toNat % 1024)
    else if a.toNat / 16 = 0x680 then .io .s0 (a.toNat % 4)
    else if a.toNat / 16 = 0x681 then .io .s1 (a.toNat % 4)
    else if a.toNat / 16 = 0x682 then .io .s2 (a.toNat % 4)
    else if a.toNat / 2048 = 15 then .watchdog .p0
    else if a.toNat / 32768 = 1 then .rom .p0 (a.toNat % 32768)
    else .unmapped := by
  simp [decodeWindows, refDecodeP0, Window.hits, Window.takes, windowTarget, Window.offset, portIndex,
    hit_F800, hit_FFF0, hit_8000, low_07FF, low_03FF, low_0003, low_7FFF]

/-- P0, writes. -/
theorem refTarget_p0_w (a : Addr) : decodeWindows refDecodeP0 .w a =
    if a.toNat / 2048 = 0 then .shared .vram (a.toNat % 2048)
    else if a.toNat / 2048 = 1 then .shared .wramA (a.toNat % 2048)
    else if a.toNat / 2048 = 2 then .shared .wramB (a.toNat % 2048)
    else if a.toNat / 2048 = 8 then .shared .snd (a.toNat % 1024)
    else if a.toNat / 16 = 0x680 then .io .s0 (a.toNat % 2)
    else if a.toNat / 16 = 0x681 then .io .s1 (a.toNat % 2)
    else if a.toNat / 16 = 0x682 then .io .s2 (a.toNat % 2)
    else if a.toNat / 4096 = 7 then .intCtl .p0 (keyLevel 11 false a)
    else if a.toNat / 4096 = 8 then .subRst (keyLevel 11 false a)
    else if a.toNat / 4096 = 9 then .ioRst (keyLevel 11 false a)
    else .unmapped := by
  simp [decodeWindows, refDecodeP0, Window.hits, Window.takes, windowTarget, Window.offset, portIndex,
    hit_F800, hit_FFF0, hit_F000, low_07FF, low_03FF, low_0003]

/-- P1, reads. -/
theorem refTarget_p1_r (a : Addr) : decodeWindows refDecodeP1 .r a =
    if a.toNat / 2048 = 0 then .shared .vram (a.toNat % 2048)
    else if a.toNat / 2048 = 1 then .shared .wramA (a.toNat % 2048)
    else if a.toNat / 2048 = 2 then .shared .wramB (a.toNat % 2048)
    else if a.toNat / 8192 = 7 then .rom .p1 (a.toNat % 8192)
    else .unmapped := by
  simp [decodeWindows, refDecodeP1, Window.hits, Window.takes, windowTarget, Window.offset, hit_F800,
    hit_E000, low_07FF, low_1FFF]

/-- P1, writes. -/
theorem refTarget_p1_w (a : Addr) : decodeWindows refDecodeP1 .w a =
    if a.toNat / 2048 = 0 then .shared .vram (a.toNat % 2048)
    else if a.toNat / 2048 = 1 then .shared .wramA (a.toNat % 2048)
    else if a.toNat / 2048 = 2 then .shared .wramB (a.toNat % 2048)
    else if a.toNat / 4096 = 6 then .intCtl .p1 (keyLevel 0 true a)
    else .unmapped := by
  simp [decodeWindows, refDecodeP1, Window.hits, Window.takes, windowTarget, Window.offset, hit_F800,
    hit_F000, low_07FF]

/-- P2, reads. -/
theorem refTarget_p2_r (a : Addr) : decodeWindows refDecodeP2 .r a =
    if a.toNat / 1024 = 0 then .shared .snd (a.toNat % 1024)
    else if a.toNat / 8192 = 1 then .watchdog .p2
    else if a.toNat / 8192 = 7 then .rom .p2 (a.toNat % 8192)
    else .unmapped := by
  simp [decodeWindows, refDecodeP2, Window.hits, Window.takes, windowTarget, Window.offset, hit_FC00,
    hit_E000, low_03FF, low_1FFF]

/-- P2, writes. -/
theorem refTarget_p2_w (a : Addr) : decodeWindows refDecodeP2 .w a =
    if a.toNat / 1024 = 0 then .shared .snd (a.toNat % 1024)
    else if a.toNat / 8192 = 1 then .watchdog .p2
    else if a.toNat / 16384 = 1 then .intCtl .p2 (keyLevel 13 false a)
    else .unmapped := by
  simp [decodeWindows, refDecodeP2, Window.hits, Window.takes, windowTarget, Window.offset, hit_FC00,
    hit_E000, hit_C000, low_03FF]

end Sys2Proof.Machine
end

