-- ==== Sys2Proof/Laws/Io.lean ====
section
/-! SUPPORT. Laws/Io: the I/O chip rules, case by case (R135-R142). -/

namespace Sys2Proof.Machine

/-- The third slot (R138). -/
theorem ioReadValue_third (s : State) (idx : Nat) : ioReadValue s .s2 idx = s.cfg.thirdSlotRead := rfl

/-- A chip held in reset (R136). -/
theorem ioReadValue_quiescent (s : State) (slot : Slot) (idx : Nat) (h : chipReset s slot = true) :
    ioReadValue s slot idx = s.cfg.quiescentRead := by
  cases slot
  · rw [ioReadValue, if_neg (by decide), if_pos h]
  · rw [ioReadValue, if_neg (by decide), if_pos h]
  · cases h

/-- A running chip (R134, R137). -/
theorem ioReadValue_running (s : State) (slot : Slot) (idx : Nat) (hs : slot ≠ .s2) (h : chipReset s slot = false) :
    ioReadValue s slot idx =
      match readBind s.cfg (s.cfg.kinds.get slot) idx with
      | none => s.cfg.unboundRead
      | some b => nibble b.half (s.inp.get b.group) :=
  (if_neg hs).trans (if_neg (by rw [h]; decide))

/-- Everything an I/O write can do: a running PlayerCoin chip takes it on its port, every other write is swallowed
(R138-R142). -/
theorem ioWrite_cases (slot : Slot) (idx : Nat) (d : Byte) (s : State) :
    ((slot = .s2 ∨ chipReset s slot = true ∨ s.cfg.kinds.get slot ≠ .playerCoin) ∧ ioWrite slot idx d s = s) ∨
    ((slot ≠ .s2 ∧ chipReset s slot = false ∧ s.cfg.kinds.get slot = .playerCoin) ∧
      ioWrite slot idx d s = if idx = 0 then coinPort0 d s else coinPort1 d s) := by
  by_cases h2 : slot = .s2
  · exact .inl ⟨.inl h2, by rw [ioWrite, if_pos h2]⟩
  by_cases hr : chipReset s slot = true
  · exact .inl ⟨.inr (.inl hr), by rw [ioWrite, if_neg h2, if_pos hr]⟩
  cases hk : s.cfg.kinds.get slot
  · exact .inr ⟨⟨h2, by simpa using hr, rfl⟩, by rw [ioWrite, if_neg h2, if_neg hr, hk]⟩
  · exact .inl ⟨.inr (.inr (by simp)), by rw [ioWrite, if_neg h2, if_neg hr, hk]⟩
  · exact .inl ⟨.inr (.inr (by simp)), by rw [ioWrite, if_neg h2, if_neg hr, hk]⟩

end Sys2Proof.Machine
end

