-- ==== Sys2Proof/Laws/Memory.lean ====
section
/-! SUPPORT. Laws/Memory: the laws of a region's bytes: a read after a write, and that every write keeps the
canonical form and the offsets of the region. -/

namespace Sys2Proof.Machine

theorem lookup_cell_other (a c : Nat) (v : Byte) (m : Memory) (h : c ≠ a) :
    lookup (Memory.cell a v m) c = lookup m c := by
  unfold Memory.cell
  split
  · rfl
  · simp [lookup, h]

/-- A write leaves the byte at every other offset alone. -/
theorem memory_read_write_other (m : Memory) (a c : Nat) (v : Byte) (h : c ≠ a) :
    Memory.read (Memory.write m a v) c = Memory.read m c := by
  have key : lookup (Memory.write m a v) c = lookup m c := by
    induction m with
    | nil => exact lookup_cell_other a c v [] h
    | cons x m ih =>
      obtain ⟨b, y⟩ := x
      simp only [Memory.write]
      split_ifs with h1 h2
      · exact lookup_cell_other a c v _ h
      · rw [lookup_cell_other a c v m h]
        subst h2
        simp [lookup, h]
      · simp only [lookup, ih]
  simp [Memory.read, key]

theorem lookup_none_of_wfFrom (m : Memory) (lo a : Nat) (hw : Memory.wfFrom lo m = true) (h : a < lo) :
    lookup m a = none := by
  induction m generalizing lo with
  | nil => rfl
  | cons x m ih =>
    obtain ⟨b, y⟩ := x
    simp only [Memory.wfFrom, Bool.and_eq_true, decide_eq_true_eq] at hw
    have hb : a ≠ b := by omega
    simp only [lookup, hb, if_false]
    exact ih (b + 1) hw.2 (by omega)

/-- A larger bound is a weaker promise. -/
theorem wfFrom_mono (m : Memory) (lo lo' : Nat) (h : lo' ≤ lo) (hw : Memory.wfFrom lo m = true) :
    Memory.wfFrom lo' m = true := by
  cases m with
  | nil => rfl
  | cons x m =>
    obtain ⟨b, y⟩ := x
    simp only [Memory.wfFrom, Bool.and_eq_true, decide_eq_true_eq] at hw ⊢
    exact ⟨⟨by omega, hw.1.2⟩, hw.2⟩

theorem read_cell_same (m : Memory) (a : Nat) (v : Byte) (hn : lookup m a = none) :
    Memory.read (Memory.cell a v m) a = v := by
  unfold Memory.cell
  split
  · next h => simp [Memory.read, hn, h]
  · simp [Memory.read, lookup]

theorem read_write_same_from (m : Memory) (lo a : Nat) (v : Byte) (hw : Memory.wfFrom lo m = true) :
    Memory.read (Memory.write m a v) a = v := by
  induction m generalizing lo with
  | nil => exact read_cell_same [] a v rfl
  | cons x m ih =>
    obtain ⟨b, y⟩ := x
    have hw' := hw
    simp only [Memory.wfFrom, Bool.and_eq_true, decide_eq_true_eq] at hw'
    simp only [Memory.write]
    split_ifs with h1 h2
    · refine read_cell_same _ a v ?_
      have hb : a ≠ b := by omega
      simp only [lookup, hb, if_false]
      exact lookup_none_of_wfFrom m (b + 1) a hw'.2 (by omega)
    · subst h2
      exact read_cell_same m a v (lookup_none_of_wfFrom m (a + 1) a hw'.2 (by omega))
    · have := ih (b + 1) hw'.2
      simpa [Memory.read, lookup, h2] using this

/-- A read after a write to the same offset gives the byte written. -/
theorem memory_read_write_same (m : Memory) (a : Nat) (v : Byte) (hw : Memory.wf m = true) :
    Memory.read (Memory.write m a v) a = v := read_write_same_from m 0 a v hw

theorem wfFrom_cell (m : Memory) (lo a : Nat) (v : Byte) (h : lo ≤ a) (hw : Memory.wfFrom (a + 1) m = true) :
    Memory.wfFrom lo (Memory.cell a v m) = true := by
  unfold Memory.cell
  split
  · exact wfFrom_mono m (a + 1) lo (by omega) hw
  · next hv => simp [Memory.wfFrom, h, hv, hw]

theorem wfFrom_write (m : Memory) (lo a : Nat) (v : Byte) (h : lo ≤ a) (hw : Memory.wfFrom lo m = true) :
    Memory.wfFrom lo (Memory.write m a v) = true := by
  induction m generalizing lo with
  | nil => exact wfFrom_cell [] lo a v h rfl
  | cons x m ih =>
    obtain ⟨b, y⟩ := x
    have hw' := hw
    simp only [Memory.wfFrom, Bool.and_eq_true, decide_eq_true_eq] at hw'
    simp only [Memory.write]
    split_ifs with h1 h2
    · refine wfFrom_cell _ lo a v h ?_
      simp only [Memory.wfFrom, Bool.and_eq_true, decide_eq_true_eq]
      exact ⟨⟨by omega, hw'.1.2⟩, hw'.2⟩
    · subst h2
      exact wfFrom_cell m lo a v h hw'.2
    · simp only [Memory.wfFrom, Bool.and_eq_true, decide_eq_true_eq]
      exact ⟨hw'.1, ih (b + 1) (by omega) hw'.2⟩

/-- A write keeps the canonical form. -/
theorem memory_wf_write (m : Memory) (a : Nat) (v : Byte) (hw : Memory.wf m = true) :
    Memory.wf (Memory.write m a v) = true := wfFrom_write m 0 a v (Nat.zero_le a) hw

theorem below_cons (c : Host.Cell) (m : Memory) (n : Nat) :
    Memory.below (c :: m) n = (decide (c.1 < n) && Memory.below m n) := rfl

theorem below_cell (m : Memory) (a n : Nat) (v : Byte) (ha : a < n) (hm : Memory.below m n = true) :
    Memory.below (Memory.cell a v m) n = true := by
  unfold Memory.cell
  split
  · exact hm
  · simp [below_cons, ha, hm]

/-- A write below the bound keeps every listed offset below it. -/
theorem memory_below_write (m : Memory) (a n : Nat) (v : Byte) (ha : a < n) (hm : Memory.below m n = true) :
    Memory.below (Memory.write m a v) n = true := by
  induction m with
  | nil => exact below_cell [] a n v ha hm
  | cons x m ih =>
    obtain ⟨b, y⟩ := x
    have hb : b < n ∧ Memory.below m n = true := by simpa [below_cons] using hm
    simp only [Memory.write]
    split_ifs with h1 h2
    · exact below_cell _ a n v ha hm
    · exact below_cell m a n v ha hb.2
    · simp [below_cons, hb.1, ih hb.2]

/-! ### Regions -/

@[simp] theorem regionRead_empty (s : State) (h : s.mem = ⟨[], [], [], []⟩) (r : Region) (off : Nat) :
    regionRead s r off = 0x00#8 := by
  cases r <;> simp [regionRead, h, PerRegion.get, Memory.read, lookup, Memory.unlisted]

/-- `RegionWrite` then `RegionRead` of the same byte (R52). -/
theorem regionRead_regionWrite_same (s : State) (r : Region) (off : Nat) (v : Byte)
    (hw : Memory.wf (s.mem.get r) = true) : regionRead (regionWrite s r off v) r off = v := by
  simp [regionRead, memory_read_write_same _ _ _ hw]

/-- `RegionWrite` changes no other byte (R52). -/
theorem regionRead_regionWrite_other (s : State) (r q : Region) (off c : Nat) (v : Byte) (h : (q, c) ≠ (r, off)) :
    regionRead (regionWrite s r off v) q c = regionRead s q c := by
  by_cases hq : q = r
  · subst hq
    have hc : c ≠ off := fun e => h (by rw [e])
    simp [regionRead, memory_read_write_other _ _ _ _ hc]
  · simp [regionRead, perRegion_get_set_other _ _ _ _ hq]

/-- A region's bytes depend on the memory alone. -/
theorem regionRead_congr {s t : State} (h : t.mem = s.mem) (r : Region) (off : Nat) :
    regionRead t r off = regionRead s r off := by
  simp [regionRead, h]

end Sys2Proof.Machine
end

