-- ==== Sys2Proof/Laws/PerInstr.lean ====
section
/-! SUPPORT. Laws/PerInstr: statements made once per instruction. EncodeHitsRow: the canonical word of an instruction
has the bits its row of opcode_table.json fixes (`match` and `mask`, R89). -/

namespace Sys2Proof.Laws

open Sys2Proof.Machine

/-- The number of a packed word (R70). -/
theorem pack_toNat (g : BitVec 2) (b : BitVec 1) (a : Addr) (d : Byte) :
    (pack g b a d).toNat = g.toNat * 2 ^ 25 + b.toNat * 2 ^ 24 + a.toNat * 2 ^ 8 + d.toNat := by
  have h : (pack g b a d).toNat = ((g.toNat * 2 ^ 1 + b.toNat) * 2 ^ 16 + a.toNat) * 2 ^ 8 + d.toNat := by
    unfold pack
    rw [toNat_append_low, toNat_append_low, toNat_append_low]
  rw [h]
  ring

/-- An event word is a packed word of agent 3 (R72). -/
theorem event_word (e : BitVec 16) (g : Byte) : Tx.word (.event (eventRest e g)) = pack 3#2 0#1 e g := by
  apply BitVec.eq_of_toNat_eq
  rw [pack_toNat]
  have h : (Tx.word (.event (eventRest e g))).toNat = 3 * 2 ^ 25 + ((0 * 2 ^ 16 + e.toNat) * 2 ^ 8 + g.toNat) := by
    unfold Tx.word eventRest
    rw [toNat_append_low, toNat_append_low, toNat_append_low]
    rfl
  rw [h]
  simp only [BitVec.toNat_ofNat]
  omega

/-- A row matches a word when they agree above the row's lowest decoded bit. -/
theorem row_hits (o : OpRow) (w : TxWord) (k : Nat) (hm : o.mask = BitVec.allOnes 27 <<< k)
    (hv : o.value.toNat % 2 ^ k = 0) (h : w.toNat / 2 ^ k = o.value.toNat / 2 ^ k) : o.hits w = true := by
  rw [OpRow.hits, hit_high w o.mask o.value k hm hv]
  exact decide_eq_true h

namespace EncodeHitsRow

/-- The canonical word has the bits the row fixes. -/
def Statement (i : Instr) : Prop := i.row.hits (encode i) = true

theorem p0RdVram (low : BitVec 11) : Statement (.p0RdVram low) := by
  refine row_hits _ _ 19 rfl (by simp [Instr.row]) ?_
  have h := low.isLt
  simp only [encode, Instr.tx, Tx.word, pack_toNat, toNat_append_low, Instr.row, Proc.agent, Dir.bit, BitVec.toNat_ofNat]
  omega

theorem p0RdWramA (low : BitVec 11) : Statement (.p0RdWramA low) := by
  refine row_hits _ _ 19 rfl (by simp [Instr.row]) ?_
  have h := low.isLt
  simp only [encode, Instr.tx, Tx.word, pack_toNat, toNat_append_low, Instr.row, Proc.agent, Dir.bit, BitVec.toNat_ofNat]
  omega

theorem p0RdWramB (low : BitVec 11) : Statement (.p0RdWramB low) := by
  refine row_hits _ _ 19 rfl (by simp [Instr.row]) ?_
  have h := low.isLt
  simp only [encode, Instr.tx, Tx.word, pack_toNat, toNat_append_low, Instr.row, Proc.agent, Dir.bit, BitVec.toNat_ofNat]
  omega

theorem p0RdSnd (low : BitVec 11) : Statement (.p0RdSnd low) := by
  refine row_hits _ _ 19 rfl (by simp [Instr.row]) ?_
  have h := low.isLt
  simp only [encode, Instr.tx, Tx.word, pack_toNat, toNat_append_low, Instr.row, Proc.agent, Dir.bit, BitVec.toNat_ofNat]
  omega

theorem p0RdIo0 (low : BitVec 4) : Statement (.p0RdIo0 low) := by
  refine row_hits _ _ 12 rfl (by simp [Instr.row]) ?_
  have h := low.isLt
  simp only [encode, Instr.tx, Tx.word, pack_toNat, toNat_append_low, Instr.row, Proc.agent, Dir.bit, BitVec.toNat_ofNat]
  omega

theorem p0RdIo1 (low : BitVec 4) : Statement (.p0RdIo1 low) := by
  refine row_hits _ _ 12 rfl (by simp [Instr.row]) ?_
  have h := low.isLt
  simp only [encode, Instr.tx, Tx.word, pack_toNat, toNat_append_low, Instr.row, Proc.agent, Dir.bit, BitVec.toNat_ofNat]
  omega

theorem p0RdIo2 (low : BitVec 4) : Statement (.p0RdIo2 low) := by
  refine row_hits _ _ 12 rfl (by simp [Instr.row]) ?_
  have h := low.isLt
  simp only [encode, Instr.tx, Tx.word, pack_toNat, toNat_append_low, Instr.row, Proc.agent, Dir.bit, BitVec.toNat_ofNat]
  omega

theorem p0RdWdog (low : BitVec 11) : Statement (.p0RdWdog low) := by
  refine row_hits _ _ 19 rfl (by simp [Instr.row]) ?_
  have h := low.isLt
  simp only [encode, Instr.tx, Tx.word, pack_toNat, toNat_append_low, Instr.row, Proc.agent, Dir.bit, BitVec.toNat_ofNat]
  omega

theorem p0RdRom (low : BitVec 15) : Statement (.p0RdRom low) := by
  refine row_hits _ _ 23 rfl (by simp [Instr.row]) ?_
  have h := low.isLt
  simp only [encode, Instr.tx, Tx.word, pack_toNat, toNat_append_low, Instr.row, Proc.agent, Dir.bit, BitVec.toNat_ofNat]
  omega

theorem p0RdUnmapped (a : Addr) : Statement (.p0RdUnmapped a) := by
  refine row_hits _ _ 24 rfl (by simp [Instr.row]) ?_
  have h := a.isLt
  simp only [encode, Instr.tx, Tx.word, pack_toNat, Instr.row, Proc.agent, Dir.bit, BitVec.toNat_ofNat]
  omega

theorem p0WrVram (low : BitVec 11) (d : Byte) : Statement (.p0WrVram low d) := by
  refine row_hits _ _ 19 rfl (by simp [Instr.row]) ?_
  have h := low.isLt
  have hd := d.isLt
  simp only [encode, Instr.tx, Tx.word, pack_toNat, toNat_append_low, Instr.row, Proc.agent, Dir.bit, BitVec.toNat_ofNat]
  omega

theorem p0WrWramA (low : BitVec 11) (d : Byte) : Statement (.p0WrWramA low d) := by
  refine row_hits _ _ 19 rfl (by simp [Instr.row]) ?_
  have h := low.isLt
  have hd := d.isLt
  simp only [encode, Instr.tx, Tx.word, pack_toNat, toNat_append_low, Instr.row, Proc.agent, Dir.bit, BitVec.toNat_ofNat]
  omega

theorem p0WrWramB (low : BitVec 11) (d : Byte) : Statement (.p0WrWramB low d) := by
  refine row_hits _ _ 19 rfl (by simp [Instr.row]) ?_
  have h := low.isLt
  have hd := d.isLt
  simp only [encode, Instr.tx, Tx.word, pack_toNat, toNat_append_low, Instr.row, Proc.agent, Dir.bit, BitVec.toNat_ofNat]
  omega

theorem p0WrSnd (low : BitVec 11) (d : Byte) : Statement (.p0WrSnd low d) := by
  refine row_hits _ _ 19 rfl (by simp [Instr.row]) ?_
  have h := low.isLt
  have hd := d.isLt
  simp only [encode, Instr.tx, Tx.word, pack_toNat, toNat_append_low, Instr.row, Proc.agent, Dir.bit, BitVec.toNat_ofNat]
  omega

theorem p0WrIo0 (low : BitVec 4) (d : Byte) : Statement (.p0WrIo0 low d) := by
  refine row_hits _ _ 12 rfl (by simp [Instr.row]) ?_
  have h := low.isLt
  have hd := d.isLt
  simp only [encode, Instr.tx, Tx.word, pack_toNat, toNat_append_low, Instr.row, Proc.agent, Dir.bit, BitVec.toNat_ofNat]
  omega

theorem p0WrIo1 (low : BitVec 4) (d : Byte) : Statement (.p0WrIo1 low d) := by
  refine row_hits _ _ 12 rfl (by simp [Instr.row]) ?_
  have h := low.isLt
  have hd := d.isLt
  simp only [encode, Instr.tx, Tx.word, pack_toNat, toNat_append_low, Instr.row, Proc.agent, Dir.bit, BitVec.toNat_ofNat]
  omega

theorem p0WrIo2 (low : BitVec 4) (d : Byte) : Statement (.p0WrIo2 low d) := by
  refine row_hits _ _ 12 rfl (by simp [Instr.row]) ?_
  have h := low.isLt
  have hd := d.isLt
  simp only [encode, Instr.tx, Tx.word, pack_toNat, toNat_append_low, Instr.row, Proc.agent, Dir.bit, BitVec.toNat_ofNat]
  omega

theorem p0WrIntctl0 (low : BitVec 12) (d : Byte) : Statement (.p0WrIntctl0 low d) := by
  refine row_hits _ _ 20 rfl (by simp [Instr.row]) ?_
  have h := low.isLt
  have hd := d.isLt
  simp only [encode, Instr.tx, Tx.word, pack_toNat, toNat_append_low, Instr.row, Proc.agent, Dir.bit, BitVec.toNat_ofNat]
  omega

theorem p0WrSubrst (low : BitVec 12) (d : Byte) : Statement (.p0WrSubrst low d) := by
  refine row_hits _ _ 20 rfl (by simp [Instr.row]) ?_
  have h := low.isLt
  have hd := d.isLt
  simp only [encode, Instr.tx, Tx.word, pack_toNat, toNat_append_low, Instr.row, Proc.agent, Dir.bit, BitVec.toNat_ofNat]
  omega

theorem p0WrIorst (low : BitVec 12) (d : Byte) : Statement (.p0WrIorst low d) := by
  refine row_hits _ _ 20 rfl (by simp [Instr.row]) ?_
  have h := low.isLt
  have hd := d.isLt
  simp only [encode, Instr.tx, Tx.word, pack_toNat, toNat_append_low, Instr.row, Proc.agent, Dir.bit, BitVec.toNat_ofNat]
  omega

theorem p0WrUnmapped (a : Addr) (d : Byte) : Statement (.p0WrUnmapped a d) := by
  refine row_hits _ _ 24 rfl (by simp [Instr.row]) ?_
  have h := a.isLt
  have hd := d.isLt
  simp only [encode, Instr.tx, Tx.word, pack_toNat, Instr.row, Proc.agent, Dir.bit, BitVec.toNat_ofNat]
  omega

theorem p1RdVram (low : BitVec 11) : Statement (.p1RdVram low) := by
  refine row_hits _ _ 19 rfl (by simp [Instr.row]) ?_
  have h := low.isLt
  simp only [encode, Instr.tx, Tx.word, pack_toNat, toNat_append_low, Instr.row, Proc.agent, Dir.bit, BitVec.toNat_ofNat]
  omega

theorem p1RdWramA (low : BitVec 11) : Statement (.p1RdWramA low) := by
  refine row_hits _ _ 19 rfl (by simp [Instr.row]) ?_
  have h := low.isLt
  simp only [encode, Instr.tx, Tx.word, pack_toNat, toNat_append_low, Instr.row, Proc.agent, Dir.bit, BitVec.toNat_ofNat]
  omega

theorem p1RdWramB (low : BitVec 11) : Statement (.p1RdWramB low) := by
  refine row_hits _ _ 19 rfl (by simp [Instr.row]) ?_
  have h := low.isLt
  simp only [encode, Instr.tx, Tx.word, pack_toNat, toNat_append_low, Instr.row, Proc.agent, Dir.bit, BitVec.toNat_ofNat]
  omega

theorem p1RdRom (low : BitVec 13) : Statement (.p1RdRom low) := by
  refine row_hits _ _ 21 rfl (by simp [Instr.row]) ?_
  have h := low.isLt
  simp only [encode, Instr.tx, Tx.word, pack_toNat, toNat_append_low, Instr.row, Proc.agent, Dir.bit, BitVec.toNat_ofNat]
  omega

theorem p1RdUnmapped (a : Addr) : Statement (.p1RdUnmapped a) := by
  refine row_hits _ _ 24 rfl (by simp [Instr.row]) ?_
  have h := a.isLt
  simp only [encode, Instr.tx, Tx.word, pack_toNat, Instr.row, Proc.agent, Dir.bit, BitVec.toNat_ofNat]
  omega

theorem p1WrVram (low : BitVec 11) (d : Byte) : Statement (.p1WrVram low d) := by
  refine row_hits _ _ 19 rfl (by simp [Instr.row]) ?_
  have h := low.isLt
  have hd := d.isLt
  simp only [encode, Instr.tx, Tx.word, pack_toNat, toNat_append_low, Instr.row, Proc.agent, Dir.bit, BitVec.toNat_ofNat]
  omega

theorem p1WrWramA (low : BitVec 11) (d : Byte) : Statement (.p1WrWramA low d) := by
  refine row_hits _ _ 19 rfl (by simp [Instr.row]) ?_
  have h := low.isLt
  have hd := d.isLt
  simp only [encode, Instr.tx, Tx.word, pack_toNat, toNat_append_low, Instr.row, Proc.agent, Dir.bit, BitVec.toNat_ofNat]
  omega

theorem p1WrWramB (low : BitVec 11) (d : Byte) : Statement (.p1WrWramB low d) := by
  refine row_hits _ _ 19 rfl (by simp [Instr.row]) ?_
  have h := low.isLt
  have hd := d.isLt
  simp only [encode, Instr.tx, Tx.word, pack_toNat, toNat_append_low, Instr.row, Proc.agent, Dir.bit, BitVec.toNat_ofNat]
  omega

theorem p1WrIntctl1 (low : BitVec 12) (d : Byte) : Statement (.p1WrIntctl1 low d) := by
  refine row_hits _ _ 20 rfl (by simp [Instr.row]) ?_
  have h := low.isLt
  have hd := d.isLt
  simp only [encode, Instr.tx, Tx.word, pack_toNat, toNat_append_low, Instr.row, Proc.agent, Dir.bit, BitVec.toNat_ofNat]
  omega

theorem p1WrUnmapped (a : Addr) (d : Byte) : Statement (.p1WrUnmapped a d) := by
  refine row_hits _ _ 24 rfl (by simp [Instr.row]) ?_
  have h := a.isLt
  have hd := d.isLt
  simp only [encode, Instr.tx, Tx.word, pack_toNat, Instr.row, Proc.agent, Dir.bit, BitVec.toNat_ofNat]
  omega

theorem p2RdSnd (low : BitVec 10) : Statement (.p2RdSnd low) := by
  refine row_hits _ _ 18 rfl (by simp [Instr.row]) ?_
  have h := low.isLt
  simp only [encode, Instr.tx, Tx.word, pack_toNat, toNat_append_low, Instr.row, Proc.agent, Dir.bit, BitVec.toNat_ofNat]
  omega

theorem p2RdWdog (low : BitVec 13) : Statement (.p2RdWdog low) := by
  refine row_hits _ _ 21 rfl (by simp [Instr.row]) ?_
  have h := low.isLt
  simp only [encode, Instr.tx, Tx.word, pack_toNat, toNat_append_low, Instr.row, Proc.agent, Dir.bit, BitVec.toNat_ofNat]
  omega

theorem p2RdRom (low : BitVec 13) : Statement (.p2RdRom low) := by
  refine row_hits _ _ 21 rfl (by simp [Instr.row]) ?_
  have h := low.isLt
  simp only [encode, Instr.tx, Tx.word, pack_toNat, toNat_append_low, Instr.row, Proc.agent, Dir.bit, BitVec.toNat_ofNat]
  omega

theorem p2RdUnmapped (a : Addr) : Statement (.p2RdUnmapped a) := by
  refine row_hits _ _ 24 rfl (by simp [Instr.row]) ?_
  have h := a.isLt
  simp only [encode, Instr.tx, Tx.word, pack_toNat, Instr.row, Proc.agent, Dir.bit, BitVec.toNat_ofNat]
  omega

theorem p2WrSnd (low : BitVec 10) (d : Byte) : Statement (.p2WrSnd low d) := by
  refine row_hits _ _ 18 rfl (by simp [Instr.row]) ?_
  have h := low.isLt
  have hd := d.isLt
  simp only [encode, Instr.tx, Tx.word, pack_toNat, toNat_append_low, Instr.row, Proc.agent, Dir.bit, BitVec.toNat_ofNat]
  omega

theorem p2WrWdog (low : BitVec 13) (d : Byte) : Statement (.p2WrWdog low d) := by
  refine row_hits _ _ 21 rfl (by simp [Instr.row]) ?_
  have h := low.isLt
  have hd := d.isLt
  simp only [encode, Instr.tx, Tx.word, pack_toNat, toNat_append_low, Instr.row, Proc.agent, Dir.bit, BitVec.toNat_ofNat]
  omega

theorem p2WrIntctl2 (low : BitVec 14) (d : Byte) : Statement (.p2WrIntctl2 low d) := by
  refine row_hits _ _ 22 rfl (by simp [Instr.row]) ?_
  have h := low.isLt
  have hd := d.isLt
  simp only [encode, Instr.tx, Tx.word, pack_toNat, toNat_append_low, Instr.row, Proc.agent, Dir.bit, BitVec.toNat_ofNat]
  omega

theorem p2WrUnmapped (a : Addr) (d : Byte) : Statement (.p2WrUnmapped a d) := by
  refine row_hits _ _ 24 rfl (by simp [Instr.row]) ?_
  have h := a.isLt
  have hd := d.isLt
  simp only [encode, Instr.tx, Tx.word, pack_toNat, Instr.row, Proc.agent, Dir.bit, BitVec.toNat_ofNat]
  omega

theorem evTick : Statement .evTick := by
  unfold Statement
  decide

theorem evPoweron : Statement .evPoweron := by
  unfold Statement
  decide

theorem evSysreset : Statement .evSysreset := by
  unfold Statement
  decide

theorem evSetinJoy (b : Byte) : Statement (.evSetinJoy b) := by
  refine row_hits _ _ 8 rfl (by simp [Instr.row]) ?_
  have h := b.isLt
  simp only [encode, Instr.tx, event_word, pack_toNat, Instr.row, BitVec.toNat_ofNat]
  omega

theorem evSetinBtn (b : Byte) : Statement (.evSetinBtn b) := by
  refine row_hits _ _ 8 rfl (by simp [Instr.row]) ?_
  have h := b.isLt
  simp only [encode, Instr.tx, event_word, pack_toNat, Instr.row, BitVec.toNat_ofNat]
  omega

theorem evSetinDswa (b : Byte) : Statement (.evSetinDswa b) := by
  refine row_hits _ _ 8 rfl (by simp [Instr.row]) ?_
  have h := b.isLt
  simp only [encode, Instr.tx, event_word, pack_toNat, Instr.row, BitVec.toNat_ofNat]
  omega

theorem evSetinDswb (b : Byte) : Statement (.evSetinDswb b) := by
  refine row_hits _ _ 8 rfl (by simp [Instr.row]) ?_
  have h := b.isLt
  simp only [encode, Instr.tx, event_word, pack_toNat, Instr.row, BitVec.toNat_ofNat]
  omega

theorem evReserved (rest : BitVec 25) : Statement (.evReserved rest) := by
  refine row_hits _ _ 25 rfl (by simp [Instr.row]) ?_
  have h := rest.isLt
  have hw : (encode (.evReserved rest)).toNat = 3 * 2 ^ 25 + rest.toNat := toNat_append_low 3#2 rest
  simp only [hw, Instr.row, BitVec.toNat_ofNat]
  omega

end EncodeHitsRow

end Sys2Proof.Laws
end

