-- ==== Sys2Proof/Laws/Setup.lean ====
section
/-! SUPPORT. Laws/Setup: what the checks of R183 promise: every target an accepted configuration decodes to is one
its transaction rule can serve. -/

namespace Sys2Proof.Machine

theorem check_eq_nil (ok : Bool) (n : Nat) (w : Option (Proc × Nat)) : check ok n w = [] ↔ ok = true := by
  unfold check
  split <;> simp_all

/-- What checks W3 to W7 and W9 say of one window of processor `p`. -/
structure WindowOk (c : Config) (p : Proc) (w : Window) : Prop where
  w1 : okW1 w = true
  w2 : okW2 w = true
  w3 : okW3 c w = true
  w4 : okW4 p w = true
  w5 : okW5 p w = true
  w6 : okW6 w = true
  w7 : okW7 c p w = true
  w8 : okW8 w = true
  w9 : okW9 p w = true

theorem windowErrors_eq_nil (c : Config) (p : Proc) (n : Nat) (w : Window) (h : windowErrors c p n w = []) :
    WindowOk c p w := by
  simp only [windowErrors, List.append_eq_nil_iff, check_eq_nil] at h
  obtain ⟨⟨⟨⟨⟨⟨⟨⟨h1, h2⟩, h3⟩, h4⟩, h5⟩, h6⟩, h7⟩, h8⟩, h9⟩ := h
  exact ⟨h1, h2, h3, h4, h5, h6, h7, h8, h9⟩

theorem tableErrors_eq_nil (c : Config) (p : Proc) (n : Nat) (ws : List Window) (h : tableErrors c p n ws = []) :
    ∀ w ∈ ws, WindowOk c p w := by
  induction ws generalizing n with
  | nil => intro w hw; cases hw
  | cons x ws ih =>
    simp only [tableErrors, List.append_eq_nil_iff] at h
    intro w hw
    rcases List.mem_cons.mp hw with rfl | hw
    · exact windowErrors_eq_nil c p n w h.1
    · exact ih (n + 1) h.2 w hw

/-- What an accepted configuration satisfies. -/
structure Accepted (c : Config) : Prop where
  windows : ∀ p, ∀ w ∈ c.decode.get p, WindowOk c p w
  serviced : ∀ q, okW7Table c q = true
  kinds : okW10 c = true
  sizes : okW11 c = true
  limit : okW12 c = true

/-- The checks, one by one. -/
theorem accepted_iff (c : Config) (h : accepted c = true) : Accepted c := by
  simp only [accepted, configErrors, List.isEmpty_iff, List.append_eq_nil_iff, check_eq_nil] at h
  obtain ⟨⟨⟨⟨⟨⟨⟨⟨h0, h1⟩, h2⟩, h3⟩, h4⟩, h5⟩, h6⟩, h7⟩, h8⟩ := h
  refine ⟨?_, ?_, h6, h7, h8⟩
  · intro p
    cases p
    · exact tableErrors_eq_nil c .p0 0 _ h0
    · exact tableErrors_eq_nil c .p1 0 _ h1
    · exact tableErrors_eq_nil c .p2 0 _ h2
  · intro q
    cases q <;> assumption

theorem wdLimit_pos (c : Config) (h : accepted c = true) : 1 ≤ c.wdLimit := by
  simpa [okW12] using (accepted_iff c h).limit

/-- What a target of processor `p` and direction `dir` satisfies under an accepted configuration. -/
def TargetOk (c : Config) (p : Proc) (dir : Dir) : Target → Prop
  | .shared r off => off < c.regionSize.get r ∧ r.ownedBy p = true
  | .rom b off => b = p ∧ dir = .r ∧ off < (c.rom.get b).size
  | .io _ idx => match dir with
    | .r => idx < 4
    | .w => idx < 2
  | .intCtl _ _ => dir = .w
  | .subRst _ => dir = .w ∧ p = .p0
  | .ioRst _ => dir = .w ∧ p = .p0
  | .watchdog q => q = p ∧ c.wdHas.get q = true
  | .unmapped => True

theorem offset_le (w : Window) (a : Addr) : w.offset a ≤ w.offmask.toNat := by
  rw [Window.offset, BitVec.toNat_and]
  exact Nat.and_le_right

theorem windowTarget_ok (c : Config) (p : Proc) (dir : Dir) (a : Addr) (w : Window) (hw : WindowOk c p w)
    (hd : w.takes dir = true) : TargetOk c p dir (windowTarget w dir a) := by
  have hle := offset_le w a
  obtain ⟨-, -, h3, h4, h5, h6, h7, -, h9⟩ := hw
  unfold windowTarget
  cases hk : w.kind with
  | shared r =>
    simp only [okW3, okW4, hk, Bool.and_eq_true, decide_eq_true_eq] at h3 h4
    exact ⟨by omega, h4⟩
  | rom b =>
    simp only [okW3, okW5, okW6, hk, Bool.and_eq_true, decide_eq_true_eq, beq_iff_eq] at h3 h5 h6
    refine ⟨h5, ?_, by omega⟩
    cases dir
    · rfl
    · simp_all [Window.takes]
  | io s =>
    cases dir <;> simp only [TargetOk, portIndex] <;> omega
  | intCtl q k act =>
    cases dir <;> simp_all [TargetOk, okW6, Window.takes]
  | subRst k act =>
    cases dir <;> simp_all [TargetOk, okW6, okW9, Window.takes]
  | ioRst k act =>
    cases dir <;> simp_all [TargetOk, okW6, okW9, Window.takes]
  | watchdog q =>
    simp only [okW7, hk, Bool.and_eq_true, beq_iff_eq] at h7
    exact h7

theorem decodeWindows_ok (c : Config) (p : Proc) (dir : Dir) (a : Addr) (ws : List Window)
    (hw : ∀ w ∈ ws, WindowOk c p w) : TargetOk c p dir (decodeWindows ws dir a) := by
  induction ws with
  | nil => exact True.intro
  | cons x ws ih =>
    simp only [decodeWindows]
    split
    · next h =>
      simp only [Window.hits, Bool.and_eq_true] at h
      exact windowTarget_ok c p dir a x (hw x (List.mem_cons_self ..)) h.1
    · exact ih (fun w h => hw w (List.mem_cons_of_mem x h))

/-- Every target of an accepted configuration can be served by its rule. -/
theorem decodeAddr_ok (c : Config) (h : accepted c = true) (p : Proc) (dir : Dir) (a : Addr) :
    TargetOk c p dir (decodeAddr c p dir a) :=
  decodeWindows_ok c p dir a _ ((accepted_iff c h).windows p)

end Sys2Proof.Machine
end

