-- ==== Sys2Proof/Laws/Pseudo.lean ====
section
/-! SUPPORT. Laws/Pseudo: the search for an address behind an expansion of a pseudo-transaction (R88): what it finds is
right, it finds something wherever there is something to find, and the base address where that will do. -/

namespace Sys2Proof.Machine

/-! ### Cubes, bit by bit -/

theorem cube_has_iff (q : Cube) (a : Addr) :
    q.has a = true ↔ ∀ i, i < 16 → (a.getLsbD i && q.mask.getLsbD i) = q.value.getLsbD i := by
  rw [Cube.has, beq_iff_eq]
  constructor
  · intro h i _
    rw [← h, BitVec.getLsbD_and]
  · intro h
    exact BitVec.eq_of_getLsbD_eq fun i hi => by rw [BitVec.getLsbD_and, h i hi]

theorem hits_iff (v : Window) (dir : Dir) (a : Addr) :
    v.hits dir a = true ↔
      v.takes dir = true ∧ ∀ i, i < 16 → (a.getLsbD i && v.mask.getLsbD i) = v.value.getLsbD i := by
  rw [Window.hits, Bool.and_eq_true]
  exact and_congr_right fun _ => cube_has_iff ⟨v.mask, v.value⟩ a

theorem getLsbD_oneBit (i j : Nat) (hj : j < 16) : (1#16 <<< i).getLsbD j = decide (j = i) := by
  simp only [BitVec.getLsbD_shiftLeft, BitVec.getLsbD_one, hj]
  by_cases h : j = i
  · simp [h]
  · by_cases hlt : j < i
    · simp [h, hlt]
    · have : j - i ≠ 0 := by omega
      simp [h, this]

theorem fix_mask (q : Cube) (i j : Nat) (b : Bool) (hj : j < 16) :
    (q.fix i b).mask.getLsbD j = (q.mask.getLsbD j || decide (j = i)) := by
  rw [Cube.fix, BitVec.getLsbD_or, getLsbD_oneBit i j hj]

theorem fix_value (q : Cube) (i j : Nat) (b : Bool) (hj : j < 16) :
    (q.fix i b).value.getLsbD j = if j = i then b else q.value.getLsbD j := by
  cases b
  · simp only [Cube.fix, Bool.false_eq_true, if_false, BitVec.getLsbD_and, BitVec.getLsbD_not, hj, getLsbD_oneBit i j hj]
    by_cases h : j = i <;> simp [h]
  · simp only [Cube.fix, if_true, BitVec.getLsbD_or, getLsbD_oneBit i j hj]
    by_cases h : j = i <;> simp [h]

/-- Fixing a bit at the value an address has keeps the address. -/
theorem has_fix {q : Cube} {a : Addr} {i : Nat} {b : Bool} (h : q.has a = true) (ha : a.getLsbD i = b) :
    (q.fix i b).has a = true := by
  rw [cube_has_iff] at h ⊢
  intro j hj
  rw [fix_mask q i j b hj, fix_value q i j b hj]
  by_cases hji : j = i
  · simp [hji, ha]
  · simp [hji, h j hj]

/-- An address with a bit fixed has that bit. -/
theorem bit_of_fix {q : Cube} {a : Addr} {i : Nat} {b : Bool} (hi : i < 16) (h : (q.fix i b).has a = true) :
    a.getLsbD i = b := by
  have := (cube_has_iff _ _).mp h i hi
  rw [fix_mask q i i b hi, fix_value q i i b hi] at this
  simpa using this

/-- A cube whose value has no bit outside its mask: its value is one of its addresses. -/
def Cube.normal (q : Cube) : Prop := q.has q.value = true

/-- W1: the decoded bits of a window are a normal cube. -/
theorem window_normal {v : Window} (h : okW1 v = true) : (⟨v.mask, v.value⟩ : Cube).normal := by
  refine (cube_has_iff _ _).mpr fun i hi => ?_
  have := congrArg (·.getLsbD i) (beq_iff_eq.mp h)
  cases hm : v.mask.getLsbD i
  · simp only [BitVec.getLsbD_and, BitVec.getLsbD_not, hm, hi, decide_true, Bool.not_false, Bool.and_true] at this
    exact (Bool.and_false _).trans (this.trans BitVec.getLsbD_zero).symm
  · exact Bool.and_true _

theorem value_of_free {q : Cube} (hq : q.normal) {i : Nat} (hi : i < 16) (hm : q.mask.getLsbD i = false) :
    q.value.getLsbD i = false := by
  have := (cube_has_iff _ _).mp hq i hi
  rw [hm, Bool.and_false] at this
  exact this.symm

theorem has_of_fix {q : Cube} {a : Addr} {i : Nat} {b : Bool} (hq : q.normal) (hm : q.mask.getLsbD i = false)
    (h : (q.fix i b).has a = true) : q.has a = true := by
  rw [cube_has_iff] at h ⊢
  intro j hj
  by_cases hji : j = i
  · subst hji
    rw [hm, value_of_free hq hj hm, Bool.and_false]
  · have := h j hj
    rw [fix_mask q i j b hj, fix_value q i j b hj] at this
    simpa [hji] using this

theorem fix_normal {q : Cube} (hq : q.normal) (i : Nat) (b : Bool) : (q.fix i b).normal := by
  rw [Cube.normal, cube_has_iff]
  intro j hj
  rw [fix_mask q i j b hj, fix_value q i j b hj]
  by_cases hji : j = i
  · simp [hji]
  · have := (cube_has_iff _ _).mp hq j hj
    simpa [hji] using this

/-- Two bit patterns that differ in a bit fixed in both. -/
theorem apart_iff (q : Cube) (v : Window) :
    q.apart v = true ↔
      ∃ i, i < 16 ∧ q.value.getLsbD i ≠ v.value.getLsbD i ∧ q.mask.getLsbD i = true ∧ v.mask.getLsbD i = true := by
  rw [Cube.apart, bne_iff_ne]
  constructor
  · intro h
    by_contra hn
    refine h (BitVec.eq_of_getLsbD_eq fun i hi => ?_)
    by_contra hb
    refine hn ⟨i, hi, ?_⟩
    simp only [BitVec.getLsbD_and, BitVec.getLsbD_xor, BitVec.getLsbD_zero, Bool.not_eq_false, Bool.and_eq_true,
      bne_iff_ne] at hb
    exact ⟨hb.1.1, hb.1.2, hb.2⟩
  · rintro ⟨i, -, h1, h2, h3⟩ h0
    have := congrArg (·.getLsbD i) h0
    simp [h1, h2, h3] at this

theorem mem_escapes (q : Cube) (v : Window) (i : Nat) :
    i ∈ q.escapes v ↔ i < 16 ∧ v.mask.getLsbD i = true ∧ q.mask.getLsbD i = false := by
  simp only [Cube.escapes, List.mem_append, List.mem_filter, List.mem_range, Bool.and_eq_true, Bool.not_eq_true']
  cases v.value.getLsbD i <;> simp

/-- An escape bit that the window wants at 1 comes first, if there is one. -/
theorem escapes_head {q : Cube} {v : Window} {i : Nat} (hi : i ∈ q.escapes v) (h : v.value.getLsbD i = true) :
    ∃ k ks, q.escapes v = k :: ks ∧ v.value.getLsbD k = true := by
  rw [Cube.escapes] at hi ⊢
  generalize (List.range 16).filter (fun i => v.mask.getLsbD i && !q.mask.getLsbD i) = bits at hi ⊢
  have hmem : i ∈ bits.filter v.value.getLsbD := by
    rcases List.mem_append.mp hi with hi | hi
    · exact hi
    · have := (List.mem_filter.mp hi).2
      rw [h] at this
      cases this
  cases hc : bits.filter v.value.getLsbD with
  | nil => rw [hc] at hmem; cases hmem
  | cons k ks => exact ⟨k, _, rfl, (List.mem_filter.mp (hc ▸ List.mem_cons_self .. : k ∈ bits.filter v.value.getLsbD)).2⟩

/-- An address of `q` that a window apart from `q`, or one for the other direction, cannot match. -/
theorem hits_of_apart {q : Cube} {v : Window} {dir : Dir} {a : Addr} (h : (!v.takes dir || q.apart v) = true)
    (ha : q.has a = true) : v.hits dir a = false := by
  rw [← Bool.not_eq_true, hits_iff]
  rintro ⟨ht, hv⟩
  rw [ht, Bool.not_true, Bool.false_or, apart_iff] at h
  obtain ⟨i, hi, hne, hq, hm⟩ := h
  have h1 := (cube_has_iff _ _).mp ha i hi
  have h2 := hv i hi
  rw [hq, Bool.and_true] at h1
  rw [hm, Bool.and_true] at h2
  exact hne (h1.symm.trans h2)

/-- An address of `q` that `v` does not match differs from it in an escape bit, where `v` is not apart. -/
theorem escape_of_miss {q : Cube} {v : Window} {dir : Dir} {a : Addr} (h1 : okW1 v = true)
    (h : (!v.takes dir || q.apart v) = false) (ha : q.has a = true) (hv : v.hits dir a = false) :
    ∃ i ∈ q.escapes v, a.getLsbD i = !v.value.getLsbD i := by
  rw [Bool.or_eq_false_iff, Bool.not_eq_false'] at h
  rw [← Bool.not_eq_true, hits_iff, not_and] at hv
  have hv := hv h.1
  push Not at hv
  obtain ⟨i, hi, hne⟩ := hv
  have hm : v.mask.getLsbD i = true := by
    by_contra hm
    rw [Bool.not_eq_true] at hm
    exact hne (by rw [hm, value_of_free (q := ⟨v.mask, v.value⟩) (window_normal h1) hi hm, Bool.and_false])
  rw [hm, Bool.and_true] at hne
  refine ⟨i, (mem_escapes q v i).mpr ⟨hi, hm, ?_⟩, by cases ha' : a.getLsbD i <;> cases hv' : v.value.getLsbD i <;> simp_all⟩
  by_contra hq
  rw [Bool.not_eq_false] at hq
  have := (cube_has_iff _ _).mp ha i hi
  rw [hq, Bool.and_true] at this
  have hap : q.apart v = true := (apart_iff q v).mpr ⟨i, hi, fun e => hne (this.trans e), hq, hm⟩
  rw [hap] at h
  exact absurd h.2 (by decide)

/-! ### The search -/

/-- What the search finds is an address of the cube that none of the windows matches. -/
theorem unshadowed_sound (vs : List Window) (dir : Dir) (q : Cube) (b : Addr) (hq : q.normal)
    (h : unshadowed vs dir q = some b) : q.has b = true ∧ ∀ v ∈ vs, v.hits dir b = false := by
  induction vs generalizing q with
  | nil =>
    simp only [unshadowed, Option.some.injEq] at h
    exact ⟨h ▸ hq, fun v hv => by cases hv⟩
  | cons v vs ih =>
    simp only [unshadowed] at h
    split at h
    · next ha =>
      obtain ⟨hb, hvs⟩ := ih q hq h
      exact ⟨hb, List.forall_mem_cons.mpr ⟨hits_of_apart ha hb, hvs⟩⟩
    · obtain ⟨i, hi, hs⟩ := List.exists_of_findSome?_eq_some h
      obtain ⟨hi, hm, hf⟩ := (mem_escapes q v i).mp hi
      obtain ⟨hb, hvs⟩ := ih (q.fix i _) (fix_normal hq i _) hs
      refine ⟨has_of_fix hq hf hb, List.forall_mem_cons.mpr ⟨?_, hvs⟩⟩
      rw [← Bool.not_eq_true, hits_iff]
      rintro ⟨-, hv⟩
      have := hv i hi
      rw [hm, Bool.and_true, bit_of_fix hi hb] at this
      cases hv' : v.value.getLsbD i <;> simp [hv'] at this

/-- The search finds an address wherever the cube has one that none of the windows matches. -/
theorem unshadowed_complete (vs : List Window) (dir : Dir) (q : Cube) (a : Addr) (h1 : ∀ v ∈ vs, okW1 v = true)
    (ha : q.has a = true) (hv : ∀ v ∈ vs, v.hits dir a = false) : ∃ b, unshadowed vs dir q = some b := by
  induction vs generalizing q with
  | nil => exact ⟨_, rfl⟩
  | cons v vs ih =>
    have ih := fun q' h' => ih q' (fun u hu => h1 u (List.mem_cons_of_mem v hu)) h'
      (fun u hu => hv u (List.mem_cons_of_mem v hu))
    simp only [unshadowed]
    split
    · exact ih q ha
    · next hn =>
      obtain ⟨i, hi, hai⟩ := escape_of_miss (h1 v (List.mem_cons_self ..)) (by simpa using hn) ha
        (hv v (List.mem_cons_self ..))
      obtain ⟨b, hb⟩ := ih (q.fix i _) (has_fix ha hai)
      exact Option.isSome_iff_exists.mp (List.findSome?_isSome_iff.mpr ⟨i, hi, by rw [hb]; rfl⟩)

/-- The search finds the base address of the cube where none of the windows matches that one. -/
theorem unshadowed_base (vs : List Window) (dir : Dir) (q : Cube) (hq : q.normal) (h1 : ∀ v ∈ vs, okW1 v = true)
    (hv : ∀ v ∈ vs, v.hits dir q.value = false) : unshadowed vs dir q = some q.value := by
  induction vs generalizing q with
  | nil => rfl
  | cons v vs ih =>
    have ih := fun q' hq' h' => ih q' hq' (fun u hu => h1 u (List.mem_cons_of_mem v hu)) h'
    have hvs : ∀ u ∈ vs, u.hits dir q.value = false := fun u hu => hv u (List.mem_cons_of_mem v hu)
    simp only [unshadowed]
    split
    · exact ih q hq hvs
    · next hn =>
      obtain ⟨i, hi, hai⟩ := escape_of_miss (h1 v (List.mem_cons_self ..)) (by simpa using hn) hq
        (hv v (List.mem_cons_self ..))
      have hone : v.value.getLsbD i = true := by
        obtain ⟨hi', -, hf⟩ := (mem_escapes q v i).mp hi
        rw [value_of_free hq hi' hf] at hai
        simpa using hai.symm
      obtain ⟨k, ks, hks, hk⟩ := escapes_head hi hone
      obtain ⟨hk16, -, hkf⟩ := (mem_escapes q v k).mp (hks ▸ List.mem_cons_self ..)
      have hval : (q.fix k (!v.value.getLsbD k)).value = q.value := by
        refine BitVec.eq_of_getLsbD_eq fun j hj => ?_
        rw [fix_value q k j _ hj]
        split
        · next h => rw [h, hk, value_of_free hq hk16 hkf]; rfl
        · rfl
      have := ih (q.fix k (!v.value.getLsbD k)) (fix_normal hq _ _) (by rw [hval]; exact hvs)
      rw [hks, List.findSome?_cons, this, hval]

/-! ### Expansions -/

theorem mem_windowAccesses {before : List Window} {w : Window} {q : Cube} {dir : Dir} {b : Addr}
    (hq : q ∈ windowCubes w) (h : unshadowed before dir q = some b) : (dir, b) ∈ windowAccesses before w := by
  refine List.mem_flatMap.mpr ⟨q, hq, List.mem_filterMap.mpr ⟨dir, ?_, by rw [h]; rfl⟩⟩
  cases dir <;> simp

theorem mem_tableAccesses (x : Dir × Addr) (ws before : List Window) (w : Window) (after pre : List Window)
    (hws : ws = before ++ w :: after) (h : x ∈ windowAccesses (pre ++ before) w) : x ∈ tableAccesses pre ws := by
  induction before generalizing pre ws with
  | nil =>
    subst hws
    rw [List.append_nil] at h
    exact List.mem_append_left _ h
  | cons v vs ih =>
    subst hws
    refine List.mem_append_right _ (ih _ (pre ++ [v]) rfl ?_)
    rwa [List.append_assoc]

/-- An expansion is an access that Decode resolves to the target. -/
theorem lineTo_reaches {c : Config} {t : Target} {p : Proc} {l : Line} (h : lineTo c t p = some l) :
    ∃ dir a, l = lineOf p dir a ∧ decodeAddr c p dir a = t := by
  obtain ⟨x, -, hx⟩ := List.exists_of_findSome?_eq_some h
  split at hx
  · next hd =>
    injection hx with hx
    exact ⟨x.1, x.2, hx.symm, hd⟩
  · cases hx

/-- There is an expansion wherever an access of the table's windows reaches the target. -/
theorem lineTo_ne_none {c : Config} {t : Target} {p : Proc} {dir : Dir} {a : Addr}
    (ha : (dir, a) ∈ tableAccesses [] (c.decode.get p)) (hd : decodeAddr c p dir a = t) : lineTo c t p ≠ none := by
  intro h
  have := List.findSome?_eq_none_iff.mp h (dir, a) ha
  simp [hd] at this

end Sys2Proof.Machine
end

