-- ==== Sys2Proof/Laws/Rows.lean ====
section
/-! SUPPORT. Laws/Rows: the word and its fields, and what a regenerated row matches (R89). -/

namespace Sys2Proof.Machine

/-! ### The word and its fields -/

theorem pack_inj {g g' : BitVec 2} {b b' : BitVec 1} {a a' : Addr} {d d' : Byte} :
    pack g b a d = pack g' b' a' d' ↔ g = g' ∧ b = b' ∧ a = a' ∧ d = d' := by
  constructor
  · intro h
    have hn := congrArg BitVec.toNat h
    rw [Laws.pack_toNat, Laws.pack_toNat] at hn
    have := g.isLt; have := g'.isLt; have := b.isLt; have := b'.isLt
    have := a.isLt; have := a'.isLt; have := d.isLt; have := d'.isLt
    refine ⟨?_, ?_, ?_, ?_⟩ <;> apply BitVec.eq_of_toNat_eq <;> omega
  · rintro ⟨rfl, rfl, rfl, rfl⟩
    rfl

/-- A word is its four fields (R70). -/
theorem pack_fields (w : TxWord) : pack (agentOf w) (dirOf w) (addrOf w) (dataOf w) = w := by
  apply BitVec.eq_of_toNat_eq
  rw [Laws.pack_toNat]
  have := w.isLt
  simp only [agentOf, dirOf, addrOf, dataOf, BitVec.extractLsb'_toNat, Nat.shiftRight_eq_div_pow]
  omega

theorem append_and {n k : Nat} (x x' : BitVec n) (y y' : BitVec k) :
    (x ++ y) &&& (x' ++ y') = (x &&& x') ++ (y &&& y') := by
  apply BitVec.eq_of_getLsbD_eq
  intro i _
  simp only [BitVec.getLsbD_and, BitVec.getLsbD_append]
  split <;> rfl

theorem pack_and (g g' : BitVec 2) (b b' : BitVec 1) (a a' : Addr) (d d' : Byte) :
    pack g b a d &&& pack g' b' a' d' = pack (g &&& g') (b &&& b') (a &&& a') (d &&& d') :=
  (append_and (g ++ b ++ a) (g' ++ b' ++ a') d d').trans (by rw [append_and, append_and]; rfl)

/-- What a row of an agent, a direction and some address bits matches. -/
theorem row_hits_iff (g : BitVec 2) (b : BitVec 1) (v m : Addr) (n : String) (f : Bool) (w : TxWord) :
    OpRow.hits ⟨n, pack g b v 0x00#8, pack 3#2 1#1 m 0x00#8, f⟩ w = true ↔
      agentOf w = g ∧ dirOf w = b ∧ addrOf w &&& m = v := by
  have hg : ∀ x : BitVec 2, x &&& 3#2 = x := by decide
  have hb : ∀ x : BitVec 1, x &&& 1#1 = x := by decide
  rw [OpRow.hits, beq_iff_eq]
  conv_lhs => rw [← pack_fields w]
  rw [pack_and, pack_inj, hg, hb]
  simp

/-- A window's row matches exactly the words of its processor and direction that the window's address bits match. -/
theorem windowRow_hits_iff (p : Proc) (dir : Dir) (x : Window) (w : TxWord) :
    (windowRow p dir x).hits w = true ↔
      agentOf w = p.agent ∧ dirOf w = dir.bit ∧ addrOf w &&& x.mask = x.value :=
  row_hits_iff _ _ _ _ _ _ w

/-- An Unmapped row matches every word of its processor and direction. -/
theorem unmappedRow_hits_iff (p : Proc) (dir : Dir) (w : TxWord) :
    (unmappedRow p dir).hits w = true ↔ agentOf w = p.agent ∧ dirOf w = dir.bit := by
  rw [unmappedRow, row_hits_iff]
  simp

theorem agent_inj {p q : Proc} (h : p.agent = q.agent) : p = q := by
  revert h
  cases p <;> cases q <;> decide

theorem bit_inj {p q : Dir} (h : p.bit = q.bit) : p = q := by
  revert h
  cases p <;> cases q <;> decide

/-- No row of another processor or direction matches a word. -/
theorem procRows_other {p q : Proc} {dir dir' : Dir} {w : TxWord} (c : Config) (hp : agentOf w = p.agent)
    (hd : dirOf w = dir.bit) (hne : (q, dir') ≠ (p, dir)) : (procRows c q dir').find? (·.hits w) = none := by
  rw [List.find?_eq_none]
  intro o ho hh
  apply hne
  rcases List.mem_append.mp ho with h | h
  · obtain ⟨v, -, rfl⟩ := List.mem_map.mp h
    have := (windowRow_hits_iff _ _ _ _).mp hh
    rw [agent_inj (hp.symm.trans this.1), bit_inj (hd.symm.trans this.2.1)]
  · rw [List.mem_singleton] at h
    subst h
    have := (unmappedRow_hits_iff _ _ _).mp hh
    rw [agent_inj (hp.symm.trans this.1), bit_inj (hd.symm.trans this.2)]

/-- The row of a processor's word is the first that matches among the rows of its processor and direction. -/
theorem rowIn_eq {p : Proc} {dir : Dir} {w : TxWord} {r : OpRow} (c : Config) (hp : agentOf w = p.agent)
    (hd : dirOf w = dir.bit) (h : (procRows c p dir).find? (·.hits w) = some r) : rowIn c w = r := by
  have e : ∀ q dir', (procRows c q dir').find? (·.hits w) = if (q, dir') = (p, dir) then some r else none := by
    intro q dir'
    split
    · next heq =>
      injection heq with h1 h2
      rw [h1, h2, h]
    · next hne => exact procRows_other c hp hd hne
  simp only [rowIn, rowsOf, List.find?_append, e]
  cases p <;> cases dir <;> rfl

end Sys2Proof.Machine
end

