-- ==== Sys2Proof/Laws/Steps.lean ====
section
/-! SUPPORT. Laws/Steps: everything a step can do, said once: under an accepted configuration a processor
transaction has one of the effects of `BusEffect`, and an instruction that answers a next state one of `StepEffect`. -/

namespace Sys2Proof.Machine

/-- The effects of a processor transaction (the table of R106). -/
inductive BusEffect (p : Proc) (dir : Dir) (a : Addr) (d : Byte) (s : State) : State → Prop
  | held (h : resetLine s p = true) : BusEffect p dir a d s (notAdmitted p s)
  | sharedRead (r : Region) (off : Nat) (hd : dir = .r) (ho : off < s.cfg.regionSize.get r)
      (hw : r.ownedBy p = true) : BusEffect p dir a d s (answer p (regionRead s r off) s)
  | sharedWrite (r : Region) (off : Nat) (hd : dir = .w) (ho : off < s.cfg.regionSize.get r)
      (hw : r.ownedBy p = true) : BusEffect p dir a d s (regionWrite s r off d)
  | rom (off : Nat) (hd : dir = .r) (ho : off < (s.cfg.rom.get p).size) :
      BusEffect p dir a d s (answer p (romRead s.cfg p off) s)
  | ioRead (slot : Slot) (idx : Nat) (hd : dir = .r) : BusEffect p dir a d s (ioRead p slot idx s)
  | ioWrite (slot : Slot) (idx : Nat) (hd : dir = .w) : BusEffect p dir a d s (ioWrite slot idx d s)
  | intCtl (q : Proc) (lvl : Bool) (hd : dir = .w) : BusEffect p dir a d s (intCtlWrite q lvl s)
  | subRst (lvl : Bool) (hd : dir = .w) (hp : p = .p0) : BusEffect p dir a d s (subRstWrite lvl s)
  | ioRst (lvl : Bool) (hd : dir = .w) (hp : p = .p0) : BusEffect p dir a d s (ioRstWrite lvl s)
  | watchdogRead (hd : dir = .r) (hw : s.cfg.wdHas.get p = true) :
      BusEffect p dir a d s (answerDraw p (serviceWatchdog p s))
  | watchdogWrite (hd : dir = .w) (hw : s.cfg.wdHas.get p = true) : BusEffect p dir a d s (serviceWatchdog p s)
  | unmapped : BusEffect p dir a d s (unmappedAccess p dir a d s)

/-- Under an accepted configuration the rule of a good target answers a next state, one of the effects. -/
theorem targetRule_effect (p : Proc) (dir : Dir) (a : Addr) (d : Byte) (s : State) (t : Target)
    (h : TargetOk s.cfg p dir t) : ∃ u, targetRule p dir a d t s = .next u ∧ BusEffect p dir a d s u := by
  cases t with
  | shared r off =>
    obtain ⟨ho, hw⟩ := h
    cases dir
    · exact ⟨_, by simp [targetRule, sharedRead, ho], .sharedRead r off rfl ho hw⟩
    · exact ⟨_, by simp [targetRule, sharedWrite, ho], .sharedWrite r off rfl ho hw⟩
  | rom b off =>
    obtain ⟨rfl, rfl, ho⟩ := h
    exact ⟨_, by simp [targetRule, romAccess, ho], .rom off rfl ho⟩
  | io slot idx =>
    cases dir
    · exact ⟨_, rfl, .ioRead slot idx rfl⟩
    · exact ⟨_, rfl, .ioWrite slot idx rfl⟩
  | intCtl q lvl =>
    obtain rfl := h
    exact ⟨_, rfl, .intCtl q lvl rfl⟩
  | subRst lvl =>
    obtain ⟨rfl, hp⟩ := h
    exact ⟨_, rfl, .subRst lvl rfl hp⟩
  | ioRst lvl =>
    obtain ⟨rfl, hp⟩ := h
    exact ⟨_, rfl, .ioRst lvl rfl hp⟩
  | watchdog q =>
    obtain ⟨rfl, hw⟩ := h
    cases dir
    · exact ⟨_, by simp [targetRule, watchdogAccess, hw], .watchdogRead rfl hw⟩
    · exact ⟨_, by simp [targetRule, watchdogAccess, hw], .watchdogWrite rfl hw⟩
  | unmapped =>
    exact ⟨_, by cases dir <;> rfl, .unmapped⟩

/-- Under an accepted configuration every processor transaction answers a next state, one of the effects. -/
theorem procStep_effect (p : Proc) (dir : Dir) (a : Addr) (d : Byte) (s : State) (h : accepted s.cfg = true) :
    ∃ u, procStep p dir a d s = .next u ∧ BusEffect p dir a d s u := by
  unfold procStep
  by_cases hr : resetLine s p = true
  · exact ⟨_, by simp [hr], .held hr⟩
  · simp only [hr, Bool.false_eq_true, if_false]
    exact targetRule_effect p dir a d s _ (decodeAddr_ok s.cfg h p dir a)

/-- The effects of an instruction that answers a next state. -/
inductive StepEffect (s : State) : State → Prop
  | bus (p : Proc) (dir : Dir) (a : Addr) (d : Byte) {t : State} (h : BusEffect p dir a d s t) : StepEffect s t
  | tick : StepEffect s (tick s)
  | poweron : StepEffect s (coldInit s)
  | sysreset : StepEffect s (sysReset s)
  | setin (g : Group) (b : Byte) : StepEffect s (setInput g b s)

/-- A processor instruction is the bus access it stands for. -/
theorem exec_of_access (i : Instr) (s : State) (x : Access) (h : i.access = some x) :
    exec i s = procStep x.proc x.dir x.addr x.data s := by
  cases i <;> simp only [Instr.access, Instr.tx, Option.some.injEq, reduceCtorEq] at h <;> subst h <;> rfl

/-- What an event instruction does. -/
theorem exec_of_event (i : Instr) (s : State) (h : i.access = none) :
    (∃ t, exec i s = .next t ∧ StepEffect s t) ∨ ∃ rest, i = .evReserved rest ∧ exec i s = .refused (.reserved (3#2 ++ rest)) := by
  cases i <;> simp only [Instr.access, Instr.tx, reduceCtorEq] at h
  case evTick => exact .inl ⟨_, rfl, .tick⟩
  case evPoweron => exact .inl ⟨_, rfl, .poweron⟩
  case evSysreset => exact .inl ⟨_, rfl, .sysreset⟩
  case evSetinJoy b => exact .inl ⟨_, rfl, .setin .joy b⟩
  case evSetinBtn b => exact .inl ⟨_, rfl, .setin .btn b⟩
  case evSetinDswa b => exact .inl ⟨_, rfl, .setin .dswa b⟩
  case evSetinDswb b => exact .inl ⟨_, rfl, .setin .dswb b⟩
  case evReserved rest => exact .inr ⟨rest, rfl, rfl⟩

/-- Under an accepted configuration an instruction that answers a next state has one of the effects. -/
theorem exec_effect (i : Instr) (s t : State) (hc : accepted s.cfg = true) (h : exec i s = .next t) : StepEffect s t := by
  cases ha : i.access with
  | some x =>
    obtain ⟨u, hu, he⟩ := procStep_effect x.proc x.dir x.addr x.data s hc
    rw [exec_of_access i s x ha, hu] at h
    injection h with h
    subst h
    exact .bus _ _ _ _ he
  | none =>
    rcases exec_of_event i s ha with ⟨u, hu, he⟩ | ⟨rest, -, hr⟩
    · rw [hu] at h
      injection h with h
      exact h ▸ he
    · rw [hr] at h
      cases h

/-- A step that answers a next state comes from an accepted configuration, takes the first word, and has one of the
effects. -/
theorem step_effect (s t : State) (h : step s = .next t) :
    accepted s.cfg = true ∧ ∃ w rest, s.pending = w :: rest ∧ exec (decode w) (taken s rest) = .next t ∧
      StepEffect (taken s rest) t := by
  unfold step at h
  split at h
  · next hc =>
    cases hp : s.pending with
    | nil => simp [hp] at h
    | cons w rest =>
      simp only [hp] at h
      exact ⟨hc, w, rest, rfl, h, exec_effect _ _ _ (by simpa using hc) h⟩
  · cases h

/-! ### TICK -/

/-- The expiry events of a TICK, in ascending order (R170). -/
def expiryEvents (s : State) : List OutEvent :=
  (if hasExpired s .p0 then [.watchdogReset .p0] else []) ++ (if hasExpired s .p1 then [.watchdogReset .p1] else []) ++
    (if hasExpired s .p2 then [.watchdogReset .p2] else [])

/-- Step 3 of TICK after the counting: nothing when no watchdog expired, else the events and one ColdInit (R170). -/
theorem expireWatchdogs_cases (s : State) :
    ((∀ q, hasExpired s q = false) ∧ expireWatchdogs s = s) ∨
    ((∃ q, hasExpired s q = true) ∧ expireWatchdogs s = coldInit { s with out := s.out ++ expiryEvents s }) := by
  by_cases h : hasExpired s .p0 || hasExpired s .p1 || hasExpired s .p2
  · refine .inr ⟨?_, ?_⟩
    · simp only [Bool.or_eq_true] at h
      rcases h with (h | h) | h
      · exact ⟨_, h⟩
      · exact ⟨_, h⟩
      · exact ⟨_, h⟩
    · rw [expireWatchdogs, if_pos h]
      congr 1
      unfold expiryEvents emitIf
      cases hasExpired s .p0 <;> cases hasExpired s .p1 <;> cases hasExpired s .p2 <;> simp
  · refine .inl ⟨?_, if_neg h⟩
    simp only [Bool.or_eq_true, not_or, Bool.not_eq_true] at h
    intro q
    cases q
    · exact h.1.1
    · exact h.1.2
    · exact h.2

/-- The state of a TICK before its watchdog check: interrupts, pulses, counting. -/
def counted (s : State) : State := countWatchdogs (chipPulses (frameInterrupts s))

/-- A TICK either expires no watchdog, or ends in one ColdInit (R170). -/
theorem tick_cases (s : State) :
    ((∀ q, hasExpired (counted s) q = false) ∧ tick s = counted s) ∨
    ((∃ q, hasExpired (counted s) q = true) ∧
      tick s = coldInit { counted s with out := (counted s).out ++ expiryEvents (counted s) }) :=
  expireWatchdogs_cases (counted s)

@[simp] theorem counted_cfg (s : State) : (counted s).cfg = s.cfg := by simp [counted]
@[simp] theorem counted_ie (s : State) : (counted s).ie = s.ie := by simp [counted]
@[simp] theorem counted_subrst (s : State) : (counted s).subrst = s.subrst := by simp [counted]
@[simp] theorem counted_iorst (s : State) : (counted s).iorst = s.iorst := by simp [counted]
@[simp] theorem counted_lamp0 (s : State) : (counted s).lamp0 = s.lamp0 := by simp [counted]
@[simp] theorem counted_lamp1 (s : State) : (counted s).lamp1 = s.lamp1 := by simp [counted]
@[simp] theorem counted_lockout (s : State) : (counted s).lockout = s.lockout := by simp [counted]
@[simp] theorem counted_inp (s : State) : (counted s).inp = s.inp := by simp [counted]
@[simp] theorem counted_mem (s : State) : (counted s).mem = s.mem := by simp [counted]
@[simp] theorem counted_diag (s : State) : (counted s).diag = s.diag := by simp [counted]
@[simp] theorem counted_reply (s : State) : (counted s).reply = s.reply := by simp [counted]
@[simp] theorem counted_draws (s : State) : (counted s).draws = s.draws := by simp [counted]
@[simp] theorem counted_pending (s : State) : (counted s).pending = s.pending := by simp [counted]
theorem counted_irq_get (s : State) (q : Proc) : (counted s).irq.get q = (s.irq.get q || s.ie.get q) := by
  simp [counted, frameInterrupts_irq_get]
theorem counted_out (s : State) :
    (counted s).out = if s.iorst then s.out else
      s.out ++ [.chipIrqPulse .s0 s.cfg.chipIrqRoute0, .chipIrqPulse .s1 s.cfg.chipIrqRoute1] := by
  cases h : s.iorst <;> simp [counted, chipPulses_out, h]

/-- The counting of a TICK, one counter at a time. -/
theorem counted_wd_get (s : State) (q : Proc) :
    (counted s).wd.get q = if counts s q then s.wd.get q + 1 else s.wd.get q := by
  rw [counted, countWatchdogs_wd_get, counts_congr (s := s) (by simp) (by simp)]
  simp

/-- Which watchdogs a TICK finds expired. -/
theorem hasExpired_counted (s : State) (q : Proc) :
    hasExpired (counted s) q = (counts s q && decide (s.cfg.wdLimit ≤ s.wd.get q + 1)) := by
  rw [hasExpired, counts_congr (s := s) (by simp) (by simp), counted_wd_get]
  cases h : counts s q <;> simp

end Sys2Proof.Machine
end

