-- ==== Sys2Proof/Tests/Slice0.lean ====
section
/-! SUPPORT. Tests/Slice0: the model held against the spec's own examples (95_test_vectors.md; the number of a vector is
its row there) and the encodings of opcode_table.json written out bit by bit. -/

namespace Sys2Proof.Tests

open Sys2Proof.Machine

/-- The next state, if there is one. -/
def nextOf : Result → Option State
  | .next t => some t
  | .fault _ => none
  | .refused _ => none

/-- The refusal, if the machine refused. -/
def refusalOf : Result → Option Refusal
  | .next _ => none
  | .fault _ => none
  | .refused r => some r

/-- One step on one line of R87. -/
def on (s : State) (l : Line) : Option State := nextOf (step { s with pending := [assemble l] })

/-- S0 and S1 of 95_test_vectors.md. -/
def S0 : State := State.reset

def S1 : State := { State.reset with iorst := false, subrst := false }

/-- S0 after IORUN. -/
def S0run : State := { State.reset with iorst := false }

/-- The inputs of L2.4. -/
def L24 : State := { S0run with inp := ⟨0xA5, 0xFE, 0xC0, 0x3C⟩ }

/-! ### Decoding: every row of the table, its open bits 1,0,1,1,0,1,… from the left -/

theorem test_decode_p0rd :
    decode 0b000000001011011011011011011#27 = .p0RdVram 0x5B6#11 ∧
    decode 0b000000011011011011011011011#27 = .p0RdWramA 0x5B6#11 ∧
    decode 0b000000101011011011011011011#27 = .p0RdWramB 0x5B6#11 ∧
    decode 0b000010001011011011011011011#27 = .p0RdSnd 0x5B6#11 ∧
    decode 0b000011010000000101101101101#27 = .p0RdIo0 0xB#4 ∧
    decode 0b000011010000001101101101101#27 = .p0RdIo1 0xB#4 ∧
    decode 0b000011010000010101101101101#27 = .p0RdIo2 0xB#4 ∧
    decode 0b000011111011011011011011011#27 = .p0RdWdog 0x5B6#11 ∧
    decode 0b000110110110110110110110110#27 = .p0RdRom 0x5B6D#15 ∧
    decode 0b000001000000000000001011010#27 = .p0RdUnmapped 0x2000#16 := by decide

theorem test_decode_p0wr :
    decode 0b001000001011011011011011011#27 = .p0WrVram 0x5B6#11 0xDB#8 ∧
    decode 0b001000011011011011011011011#27 = .p0WrWramA 0x5B6#11 0xDB#8 ∧
    decode 0b001000101011011011011011011#27 = .p0WrWramB 0x5B6#11 0xDB#8 ∧
    decode 0b001010001011011011011011011#27 = .p0WrSnd 0x5B6#11 0xDB#8 ∧
    decode 0b001011010000000101101101101#27 = .p0WrIo0 0xB#4 0x6D#8 ∧
    decode 0b001011010000001101101101101#27 = .p0WrIo1 0xB#4 0x6D#8 ∧
    decode 0b001011010000010101101101101#27 = .p0WrIo2 0xB#4 0x6D#8 ∧
    decode 0b001011110110110110110110110#27 = .p0WrIntctl0 0xB6D#12 0xB6#8 ∧
    decode 0b001100010110110110110110110#27 = .p0WrSubrst 0xB6D#12 0xB6#8 ∧
    decode 0b001100110110110110110110110#27 = .p0WrIorst 0xB6D#12 0xB6#8 ∧
    decode 0b001101000000000000001011010#27 = .p0WrUnmapped 0xA000#16 0x5A#8 := by decide

theorem test_decode_p1rd :
    decode 0b010000001011011011011011011#27 = .p1RdVram 0x5B6#11 ∧
    decode 0b010000011011011011011011011#27 = .p1RdWramA 0x5B6#11 ∧
    decode 0b010000101011011011011011011#27 = .p1RdWramB 0x5B6#11 ∧
    decode 0b010111101101101101101101101#27 = .p1RdRom 0x16DB#13 ∧
    decode 0b010010000000000000001011010#27 = .p1RdUnmapped 0x4000#16 := by decide

theorem test_decode_p1wr :
    decode 0b011000001011011011011011011#27 = .p1WrVram 0x5B6#11 0xDB#8 ∧
    decode 0b011000011011011011011011011#27 = .p1WrWramA 0x5B6#11 0xDB#8 ∧
    decode 0b011000101011011011011011011#27 = .p1WrWramB 0x5B6#11 0xDB#8 ∧
    decode 0b011011010110110110110110110#27 = .p1WrIntctl1 0xB6D#12 0xB6#8 ∧
    decode 0b011111000000000000001011010#27 = .p1WrUnmapped 0xE000#16 0x5A#8 := by decide

theorem test_decode_p2rd :
    decode 0b100000000101101101101101101#27 = .p2RdSnd 0x2DB#10 ∧
    decode 0b100001101101101101101101101#27 = .p2RdWdog 0x16DB#13 ∧
    decode 0b100111101101101101101101101#27 = .p2RdRom 0x16DB#13 ∧
    decode 0b100000001000000000001011010#27 = .p2RdUnmapped 0x0400#16 := by decide

theorem test_decode_p2wr :
    decode 0b101000000101101101101101101#27 = .p2WrSnd 0x2DB#10 0x6D#8 ∧
    decode 0b101001101101101101101101101#27 = .p2WrWdog 0x16DB#13 0x6D#8 ∧
    decode 0b101011011011011011011011011#27 = .p2WrIntctl2 0x2DB6#14 0xDB#8 ∧
    decode 0b101100000000000000101011010#27 = .p2WrUnmapped 0x8001#16 0x5A#8 := by decide

theorem test_decode_ev :
    decode 0b110000000000000000010110110#27 = .evTick ∧
    decode 0b110000000000000000110110110#27 = .evPoweron ∧
    decode 0b110000000000000001010110110#27 = .evSysreset ∧
    decode 0b110000000000001000010110110#27 = .evSetinJoy 0xB6#8 ∧
    decode 0b110000000000001000110110110#27 = .evSetinBtn 0xB6#8 ∧
    decode 0b110000000000001001010110110#27 = .evSetinDswa 0xB6#8 ∧
    decode 0b110000000000001001110110110#27 = .evSetinDswb 0xB6#8 := by decide

/-- E.9 to E.11: reserved words. -/
theorem test_decode_reserved :
    decode 0x6000300#27 = .evReserved 0x0000300#25 ∧ decode 0x7000000#27 = .evReserved 0x1000000#25 ∧
    decode 0x6001400#27 = .evReserved 0x0001400#25 := by decide

/-- R71: the data bits of a read are ignored. -/
theorem test_decode_read_data_ignored : decode 0x00680FF#27 = decode 0x0068000#27 := by decide

/-- R74: a 28-bit number is no word. -/
theorem test_decode_too_wide : decodeTableWord 32 0x8000000 = none := by decide

/-- R72: the example words of R87 and L1.9. -/
theorem test_assemble :
    assemble (.wr .p0 0x7000 0x00) = 0x1700000#27 ∧ assemble .tick = 0x6000000#27 ∧
    assemble (.setin .btn 0xFE) = 0x60011FE#27 ∧ assemble (.setin .dswb 0xC0) = 0x60013C0#27 ∧
    assemble (.rd .p0 0x6812) = 0x0681200#27 ∧ assemble (.wr .p2 0x3FFF 0x00) = 0x53FFF00#27 := by decide

/-- encode gives the table's canonical words. -/
theorem test_encode :
    encode (.p0WrIntctl0 0x7FF 0x55) = 0x177FF55#27 ∧ encode (.p1RdRom 0) = 0x2E00000#27 ∧
    encode .evSysreset = 0x6000200#27 ∧ encode (.evReserved 0x1000000) = 0x7000000#27 := by decide

/-- C5: a configuration that places IntCtl(1) in P0's table alone; IEN 1 is then a write of P0 (R88). -/
theorem test_pseudo_other_configuration :
    expandIn { refConfig with decode := ⟨[⟨false, true, 0x3000, 0xF000, 0, .intCtl .p1 2 true⟩], [], []⟩ } .ien1 =
      some (.wr .p0 0x3004 0x00) ∧
    expandIn { refConfig with decode := ⟨[], [], []⟩ } .wdog0 = none := by decide

/-- R89: the row of a window of another configuration, and of a word no window matches. -/
theorem test_rows_other_configuration :
    rowIn { refConfig with decode := ⟨[⟨false, true, 0x3000, 0xF000, 0, .intCtl .p1 2 true⟩], [], []⟩ } 0x1300455 =
      ⟨"P0.WR.INTCTL1", 0x1300000, 0x7F00000, false⟩ ∧
    rowIn { refConfig with decode := ⟨[], [], []⟩ } 0x0000000 = ⟨"P0.RD.UNMAPPED", 0, 0x7000000, true⟩ := by decide

/-- R180. -/
theorem test_codes :
    OutEvent.code (.watchdogReset .p2) = some 2 ∧ Refusal.codes (.reserved 0x7000000) = [3] ∧
    Refusal.codes (.configuration [⟨12, none⟩]) = [0x1C] ∧ Abnormal.code .unmapped = 1 := by decide

/-! ### WellFormed: one ill-formed term for each check, which the check refuses -/

theorem test_illformed_p0_read : Instr.wf (.p0RdUnmapped 0x0000) = false := by decide
theorem test_illformed_p0_write : Instr.wf (.p0WrUnmapped 0x7000 0) = false := by decide
theorem test_illformed_p1_read : Instr.wf (.p1RdUnmapped 0xE000) = false := by decide
theorem test_illformed_p1_write : Instr.wf (.p1WrUnmapped 0x6001 0) = false := by decide
theorem test_illformed_p2_read : Instr.wf (.p2RdUnmapped 0x03FF) = false := by decide
theorem test_illformed_p2_write : Instr.wf (.p2WrUnmapped 0x7FFF 0) = false := by decide
theorem test_illformed_reserved : Instr.wf (.evReserved 0x0001300) = false := by decide
theorem test_wellformed_reserved :
    Instr.wf (.evReserved 0x1000000) = true ∧ Instr.wf (.evReserved 0x0000300) = true := by decide

/-! ### The address decoder (L2.1) -/

theorem test_decoder_p0 :
    decodeAddr refConfig .p0 .r 0x07FF = .shared .vram 0x7FF ∧ decodeAddr refConfig .p0 .w 0x4400 = .shared .snd 0 ∧
    decodeAddr refConfig .p0 .r 0x47FF = .shared .snd 0x3FF ∧ decodeAddr refConfig .p0 .r 0x6804 = .io .s0 0 ∧
    decodeAddr refConfig .p0 .r 0x680F = .io .s0 3 ∧ decodeAddr refConfig .p0 .w 0x6803 = .io .s0 1 ∧
    decodeAddr refConfig .p0 .w 0x77FF = .intCtl .p0 true ∧ decodeAddr refConfig .p0 .w 0x7FFF = .intCtl .p0 false := by
  decide

theorem test_decoder_p0_split :
    decodeAddr refConfig .p0 .r 0x7FFF = .watchdog .p0 ∧ decodeAddr refConfig .p0 .r 0x7000 = .unmapped ∧
    decodeAddr refConfig .p0 .w 0x87FF = .subRst true ∧ decodeAddr refConfig .p0 .r 0x8000 = .rom .p0 0 ∧
    decodeAddr refConfig .p0 .w 0x9FFF = .ioRst false ∧ decodeAddr refConfig .p0 .w 0xA000 = .unmapped := by decide

theorem test_decoder_secondaries :
    decodeAddr refConfig .p1 .w 0x6FFF = .intCtl .p1 true ∧ decodeAddr refConfig .p1 .w 0x6FFE = .intCtl .p1 false ∧
    decodeAddr refConfig .p1 .r 0x4000 = .unmapped ∧ decodeAddr refConfig .p2 .w 0x5FFF = .intCtl .p2 true ∧
    decodeAddr refConfig .p2 .w 0x6000 = .intCtl .p2 false ∧ decodeAddr refConfig .p2 .w 0x3FFF = .watchdog .p2 ∧
    decodeAddr refConfig .p2 .r 0x0400 = .unmapped ∧ decodeAddr refConfig .p2 .r 0xFFFF = .rom .p2 0x1FFF := by decide

/-! ### The setup checks (L2.11, and one failing configuration for each other check) -/

/-- REFCFG with P0's table changed. -/
def withP0 (f : List Window → List Window) : Config :=
  { refConfig with decode := { refConfig.decode with p0 := f refConfig.decode.p0 } }

/-- An accepted configuration whose first window shadows the base address 0x7000 of P0's interrupt-control window. -/
def shadowedConfig : Config := withP0 (⟨true, true, 0x7000, 0xFFF0, 3, .io .s0⟩ :: ·)

/-- R81, R88: an expansion avoids the addresses that an earlier window takes. -/
theorem test_pseudo_shadowed_base :
    expandIn shadowedConfig .ien0 = some (.wr .p0 0x7010 0x00) ∧
    expandIn shadowedConfig .idis0 = some (.wr .p0 0x7800 0x00) := by decide

/-- Which checks a configuration fails. -/
def failed (c : Config) : List Nat := (configErrors c).map ConfigError.check

theorem test_setup_ref_accepted : configErrors refConfig = [] := by decide
theorem test_setup_w1 : failed (withP0 (·.set 0 ⟨true, true, 0x0001, 0xF800, 0x07FF, .shared .vram⟩)) = [1] := by decide
theorem test_setup_w2 : failed (withP0 (·.set 0 ⟨true, true, 0x0000, 0xFC00, 0x07FF, .shared .vram⟩)) = [2] := by decide
/-- K.4. -/
theorem test_setup_w3 : failed (withP0 (·.set 3 ⟨true, true, 0x4000, 0xF800, 0x07FF, .shared .snd⟩)) = [3] := by decide
/-- K.3: P1 does not own SND (the offset mask is too wide for SND as well). -/
theorem test_setup_w4 :
    4 ∈ failed { refConfig with decode := { refConfig.decode with
      p1 := refConfig.decode.p1.set 0 ⟨true, true, 0x0000, 0xF800, 0x07FF, .shared .snd⟩ } } := by decide
theorem test_setup_w5 : failed (withP0 (·.set 11 ⟨true, false, 0x8000, 0x8000, 0x1FFF, .rom .p1⟩)) = [5] := by decide
/-- K.1. -/
theorem test_setup_w6 : failed (withP0 (·.set 7 ⟨true, true, 0x7000, 0xF000, 0, .intCtl .p0 11 false⟩)) = [6] := by decide
/-- K.7: no Watchdog(1) window, and P2's watchdog window has no counter. -/
theorem test_setup_w7 : failed { refConfig with wdHas := ⟨true, true, false⟩ } = [7, 7] := by decide
/-- K.2. -/
theorem test_setup_w8 : failed (withP0 (·.set 7 ⟨false, true, 0x7000, 0xF000, 0, .intCtl .p0 12 false⟩)) = [8] := by decide
/-- K.5. -/
theorem test_setup_w9 :
    failed { refConfig with decode := { refConfig.decode with
      p0 := refConfig.decode.p0.eraseIdx 9
      p1 := refConfig.decode.p1 ++ [⟨false, true, 0x8000, 0xF000, 0, .subRst 11 false⟩] } } = [9] := by decide
theorem test_setup_w10 : failed { refConfig with kinds := ⟨.playerCoin, .playerCoin, .unmodelled⟩ } = [10] := by decide
theorem test_setup_w11 :
    failed { refConfig with spriteLayout := some ⟨⟨.snd, 0, 4⟩, ⟨.wramA, 0, 4⟩, ⟨.wramB, 0x7FE, 4⟩⟩ } = [11] := by decide
/-- K.6, with its code 0x1C. -/
theorem test_setup_w12 : (configErrors { refConfig with wdLimit := 0 }).map errorCode = [0x1C] := by decide

/-- A configuration that fails a check has no run (R183). -/
theorem test_step_refuses_configuration :
    refusalOf (step { S0 with cfg := { refConfig with wdLimit := 0 }, pending := [0x6000000] }) =
      some (.configuration [⟨12, none⟩]) := by decide

/-! ### Shared regions and ROM (L2.2, L2.3) -/

theorem test_M1_read_after_poweron : (on S0 (.rd .p0 0x0000)).map (·.reply) = some (.data .p0 0x00) := by decide
theorem test_M2_write_through_mirror : (on S1 (.wr .p0 0x4400 0x33)).map (·.mem.snd) = some [(0, 0x33)] := by decide
theorem test_M3_other_owner_reads :
    (on { S1 with mem := ⟨[], [], [], [(0, 0x33)]⟩ } (.rd .p2 0x0000)).map (·.reply) = some (.data .p2 0x33) := by decide
theorem test_M5_p1_write : (on S1 (.wr .p1 0x17FF 0xFF)).map (·.mem.wramB) = some [(0x7FF, 0xFF)] := by decide
theorem test_M7_held_has_no_step :
    (on S0 (.wr .p1 0x0000 0x01)).map (fun t => (t.mem, t.reply)) = some (S0.mem, .held .p1) := by decide
theorem test_write_zero_is_unlisted :
    (on { S1 with mem := ⟨[], [(0, 0x5A)], [], []⟩ } (.wr .p0 0x0800 0x00)).map (·.mem.wramA) = some [] := by decide
theorem test_L11_snd_from_p2 : (on S1 (.wr .p2 0x0010 0x99)).map (·.mem.snd) = some [(0x10, 0x99)] := by decide

/-- A state whose ROM images hold the bytes of L2.3. -/
def S1rom : State :=
  { S1 with cfg := { refConfig with rom := ⟨⟨0x8000, [(0x7FFE, 0x80)]⟩, ⟨0x2000, [(0, 0x3E)]⟩, ⟨0x2000, []⟩⟩ } }

theorem test_O1_rom0 : (on S1rom (.rd .p0 0xFFFE)).map (·.reply) = some (.data .p0 0x80) := by decide
theorem test_O2_rom1 : (on S1rom (.rd .p1 0xE000)).map (·.reply) = some (.data .p1 0x3E) := by decide
theorem test_O3_rom_write_is_unmapped :
    (on S0 (.wr .p0 0xA000 0x12)).map (·.diag) = some [⟨1, .p0, .w, 0xA000, 0x12⟩] := by decide
theorem test_O5_not_a_rom_write : (on S0 (.wr .p0 0x8000 0x12)).map (·.subrst) = some false := by decide

/-! ### The I/O chips (L2.4, L2.5, L1.6) -/

theorem test_I1_joy_lo : (on L24 (.rd .p0 0x6800)).map (·.reply) = some (.data .p0 0x05) := by decide
theorem test_I4_btn_hi : (on L24 (.rd .p0 0x6803)).map (·.reply) = some (.data .p0 0x0F) := by decide
theorem test_I7_dswb_lo : (on L24 (.rd .p0 0x6811)).map (·.reply) = some (.data .p0 0x0C) := by decide
theorem test_I9_dswb_hi : (on L24 (.rd .p0 0x6813)).map (·.reply) = some (.data .p0 0x03) := by decide
theorem test_I11_in_reset : (on S0 (.rd .p0 0x6801)).map (·.reply) = some (.data .p0 0x0F) := by decide
theorem test_I12_third_slot :
    (on { S0 with cfg := { refConfig with thirdSlotRead := 0x09 } } (.rd .p0 0x6820)).map (·.reply) =
      some (.data .p0 0x09) := by decide
theorem test_L16_rev_b :
    (on { L24 with cfg := { refConfig with kinds := revB } } (.rd .p0 0x6811)).map (·.reply) =
      some (.data .p0 0x0E) := by decide
theorem test_W1_lamps :
    (on S0run (.wr .p0 0x6800 0x07)).map (fun t => (t.lamp0, t.lamp1, t.lockout, t.out)) =
      some (true, true, true, [.coinPulse 0]) := by decide
theorem test_W4_mirror_of_port_0 :
    (on S0run (.wr .p0 0x6802 0xF4)).map (fun t => (t.lamp0, t.lamp1, t.lockout, t.out)) =
      some (false, false, true, [.coinPulse 0]) := by decide
theorem test_W5_coin_1 : (on S0run (.wr .p0 0x6801 0xFE)).map (·.out) = some [.coinPulse 1] := by decide
theorem test_W8_dipswitch_swallows : on S0run (.wr .p0 0x6810 0x00) = some S0run := by decide
theorem test_W9_third_slot_swallows : on S0run (.wr .p0 0x6822 0xFF) = some S0run := by decide
theorem test_W10_held_chip_swallows : on S0 (.wr .p0 0x6800 0x00) = some S0 := by decide

/-! ### Control windows (L2.6, L2.7), the watchdog (L2.8), unmapped accesses (L2.9) -/

/-- S1 with every latch and line set. -/
def S1on : State := { S1 with ie := ⟨true, true, true⟩, irq := ⟨true, true, true⟩ }

theorem test_C1_enable_p0 : (on S0 (.wr .p0 0x77FF 0x55)).map (·.ie) = some ⟨true, false, false⟩ := by decide
theorem test_C2_disable_p0 :
    (on S1on (.wr .p0 0x7FFF 0xAA)).map (fun t => (t.ie, t.irq)) =
      some (⟨false, true, true⟩, ⟨false, true, true⟩) := by decide
theorem test_C3_enable_keeps_line : (on S1on (.wr .p0 0x7000 0x00)) = some S1on := by decide
theorem test_C5_enable_p1 : (on S1 (.wr .p1 0x6001 0x00)).map (·.ie) = some ⟨false, true, false⟩ := by decide
theorem test_C6_disable_p1 : (on S1on (.wr .p1 0x6000 0x00)).map (·.irq) = some ⟨true, false, true⟩ := by decide
theorem test_C7_enable_p2 : (on S1 (.wr .p2 0x4000 0x00)).map (·.ie) = some ⟨false, false, true⟩ := by decide
theorem test_C8_disable_p2 : (on S1on (.wr .p2 0x7FFF 0x00)).map (·.ie) = some ⟨true, true, false⟩ := by decide
theorem test_S1_release : (on S0 (.wr .p0 0x87FF 0xFF)).map (fun t => (t.subrst, soundEnable t)) = some (false, true) := by
  decide
theorem test_S2_assert :
    (on { S1 with wd := ⟨3, 0, 5⟩ } (.wr .p0 0x8FFF 0x00)).map (fun t => (t.subrst, t.wd)) = some (true, ⟨3, 0, 0⟩) := by
  decide
theorem test_S5_io_release : (on S0 (.wr .p0 0x97FF 0x00)).map (·.iorst) = some false := by decide
theorem test_S6_io_assert :
    (on { S1 with lamp0 := true, lamp1 := true } (.wr .p0 0x9FFF 0x00)).map (fun t => (t.iorst, t.lamp0, t.lamp1)) =
      some (true, true, true) := by decide
theorem test_G1_service_p0 : (on { S0 with wd := ⟨7, 0, 0⟩ } (.rd .p0 0x7800)).map (·.wd) = some ⟨0, 0, 0⟩ := by decide
theorem test_G3_service_p2_write : (on { S1 with wd := ⟨1, 0, 7⟩ } (.wr .p2 0x3FFF 0)).map (·.wd) = some ⟨1, 0, 0⟩ := by
  decide
theorem test_G4_not_a_service : (on { S0 with wd := ⟨7, 0, 0⟩ } (.wr .p0 0x7800 0)).map (·.wd) = some ⟨7, 0, 0⟩ := by decide
theorem test_service_p2_read :
    (on { S1 with wd := ⟨1, 0, 7⟩ } (.rd .p2 0x2000)).map (fun t => (t.wd, t.draws)) = some (⟨1, 0, 0⟩, 1) := by decide
theorem test_U3_unmapped_read :
    (on S0 (.rd .p0 0x7000)).map (fun t => (t.diag, t.draws)) = some ([⟨1, .p0, .r, 0x7000, 0x00⟩], 1) := by decide
theorem test_U5_unmapped_write : (on S1 (.wr .p2 0xE000 0)).map (·.diag) = some [⟨1, .p2, .w, 0xE000, 0⟩] := by decide
theorem test_U6_no_service : (on { S0 with wd := ⟨7, 0, 0⟩ } (.rd .p0 0x6830)).map (·.wd) = some ⟨7, 0, 0⟩ := by decide

/-! ### System events (L2.10, L1.5, L1.8) -/

theorem test_E1_tick_from_reset :
    (on S0 .tick).map (fun t => (t.wd, t.out, t.irq)) = some (⟨1, 0, 0⟩, [], ⟨false, false, false⟩) := by decide
theorem test_E2_tick_running :
    (on { S1 with ie := ⟨true, false, true⟩ } .tick).map (fun t => (t.irq, t.out, t.wd)) =
      some (⟨true, false, true⟩, [.chipIrqPulse .s0 .p0, .chipIrqPulse .s1 .p1], ⟨1, 0, 1⟩) := by decide
theorem test_L18_both_expire :
    (on { S1 with wd := ⟨7, 0, 7⟩, iorst := true, ie := ⟨true, true, true⟩ } .tick).map (fun t => (t.out, t.wd, t.irq)) =
      some ([.watchdogReset .p0, .watchdogReset .p2, .resetPulse .p0, .resetPulse .p1, .resetPulse .p2], ⟨0, 0, 0⟩,
        ⟨false, false, false⟩) := by decide

/-- The start state of L1.5. -/
def L15 : State :=
  { S1on with mem := ⟨[(0, 0x11)], [], [], []⟩, lamp0 := true, wd := ⟨3, 0, 5⟩ }

theorem test_L15_sysreset :
    on L15 .sysreset = some { L15 with
      ie := ⟨true, false, true⟩, irq := ⟨true, false, true⟩, subrst := true, iorst := true, wd := ⟨0, 0, 0⟩
      out := [.resetPulse .p0, .resetPulse .p1, .resetPulse .p2] } := by decide
theorem test_L15_poweron :
    on L15 .poweron = some { S0 with out := [.resetPulse .p0, .resetPulse .p1, .resetPulse .p2] } := by decide
theorem test_E5_setin_joy : (on S0 (.setin .joy 0xA5)).map (·.inp) = some ⟨0xA5, 0xFF, 0xFF, 0xFF⟩ := by decide
theorem test_E6_setin_dswb : (on S0 (.setin .dswb 0x3C)).map (·.inp) = some ⟨0xFF, 0xFF, 0xFF, 0x3C⟩ := by decide
theorem test_setin_btn_dswa :
    (on S0 (.setin .btn 0x12)).map (·.inp.btn) = some 0x12 ∧ (on S0 (.setin .dswa 0x34)).map (·.inp.dswa) = some 0x34 := by
  decide
theorem test_E9_reserved_refused :
    refusalOf (step { S0 with pending := [0x6000300] }) = some (.reserved 0x6000300) := by decide
theorem test_no_transaction : refusalOf (step S0) = some .noTransaction := by decide
theorem test_withFetchWord_runs_a_secondary :
    (nextOf (step (S0.withFetchWord 27 0x3000001))).map (·.mem.vram) = some [(0, 0x01)] := by decide

end Sys2Proof.Tests
end

