-- ==== Sys2Proof/Tests/Witnesses.lean ====
section
/-! SUPPORT. Tests/Witnesses: for every obligation with hypotheses, concrete values that meet all of them together, one
for each clause. -/

namespace Sys2Proof.Tests

open Sys2Proof.Machine Sys2Proof.Claims

/-- The outcome is a next state with property `f`. -/
def runs (o : Result) (f : State → Bool) : Bool :=
  match o with
  | .next t => f t
  | .fault _ => false
  | .refused _ => false

theorem of_runs {o : Result} {f : State → Bool} (h : runs o f = true) : ∃ t, o = .next t ∧ f t = true := by
  cases o with
  | next t => exact ⟨t, rfl, h⟩
  | fault _ => cases h
  | refused _ => cases h

/-- S1 with every latch enabled and every line asserted, the watchdogs one tick short of WD_LIMIT, and one VRAM byte
and one SND byte written. -/
def busy : State :=
  { S1 with
    ie := ⟨true, true, true⟩, irq := ⟨true, true, true⟩, wd := ⟨7, 0, 7⟩
    mem := ⟨[(0x7FF, 0x5A)], [], [], [(0, 0x33)]⟩ }

/-- S0 with one TICK to take. -/
def oneTick : State := { S0 with pending := [tickWord] }

theorem inv_of_checks (s : State) (hc : accepted s.cfg = true)
    (hi : ((!s.irq.p0 || s.ie.p0) && (!s.irq.p1 || s.ie.p1) && (!s.irq.p2 || s.ie.p2)) = true)
    (hw : (if s.cfg.wdHas.p0 then s.wd.p0 < s.cfg.wdLimit else s.wd.p0 = 0) ∧
      (if s.cfg.wdHas.p1 then s.wd.p1 < s.cfg.wdLimit else s.wd.p1 = 0) ∧
      (if s.cfg.wdHas.p2 then s.wd.p2 < s.cfg.wdLimit else s.wd.p2 = 0))
    (hh : s.subrst = true → s.wd.p1 = 0 ∧ s.wd.p2 = 0)
    (hm : ([Region.vram, .wramA, .wramB, .snd].all
      fun r => Memory.wf (s.mem.get r) && Memory.below (s.mem.get r) (s.cfg.regionSize.get r)) = true) : Inv s where
  config := hc
  irq := by
    intro p hp
    simp only [Bool.and_eq_true, Bool.or_eq_true, Bool.not_eq_true'] at hi
    cases p
    · exact hi.1.1.resolve_left (by rw [show s.irq.p0 = true from hp]; decide)
    · exact hi.1.2.resolve_left (by rw [show s.irq.p1 = true from hp]; decide)
    · exact hi.2.resolve_left (by rw [show s.irq.p2 = true from hp]; decide)
  watchdogs := by
    intro p
    cases p
    · exact hw.1
    · exact hw.2.1
    · exact hw.2.2
  held := hh
  regions := by
    intro r
    simp only [List.all_cons, List.all_nil, Bool.and_eq_true] at hm
    cases r
    · exact hm.1
    · exact hm.2.1
    · exact hm.2.2.1
    · exact hm.2.2.2.1

theorem inv_S0 : Inv S0 := inv_of_checks S0 (by decide) (by decide) (by decide) (by decide) (by decide)
theorem inv_S1 : Inv S1 := inv_of_checks S1 (by decide) (by decide) (by decide) (by decide) (by decide)
theorem inv_busy : Inv busy := inv_of_checks busy (by decide) (by decide) (by decide) (by decide) (by decide)
theorem inv_oneTick : Inv oneTick := inv_of_checks oneTick (by decide) (by decide) (by decide) (by decide) (by decide)

/-! ### Encoding, decoder, setup -/

theorem witness_DecodeInvertsEncode :
    Instr.wf (.p0RdUnmapped 0x77FF) = true ∧ Instr.wf (.p2WrUnmapped 0x0400 0xFF) = true ∧
    Instr.wf (.evReserved 0x0001400) = true ∧ Instr.wf (.p0WrIntctl0 0xFFF 0x00) = true := by decide

theorem witness_EveryWordBelongsToItsRow :
    (decode 0x0180000#27).row.fallback = true ∧ (decode 0x7FFFFFF#27).row.fallback = true := by decide

theorem witness_ReadDataFieldIsIgnored :
    agentOf 0x40000FF#27 ≠ 3#2 ∧ dirOf 0x40000FF#27 = 0#1 ∧ agentOf 0x4000000#27 = agentOf 0x40000FF#27 ∧
    dirOf 0x4000000#27 = 0#1 ∧ addrOf 0x4000000#27 = addrOf 0x40000FF#27 := by decide

theorem witness_FirstMatchingWindowWins :
    (refConfig.decode.get .p0 = refDecodeP0.take 11 ++ ⟨true, false, 0x8000, 0x8000, 0x7FFF, .rom .p0⟩ :: [] ∧
      (∀ x ∈ refDecodeP0.take 11, x.hits .r 0x8000 = false) ∧
      Window.hits ⟨true, false, 0x8000, 0x8000, 0x7FFF, .rom .p0⟩ .r 0x8000 = true) ∧
    ∀ x ∈ refConfig.decode.get .p0, x.hits .w 0xA000 = false := by decide

/-- The SND window of P0, and its IntCtl window, where A10 is a don't-care bit. -/
theorem witness_DontCareBitsDecodeAlike :
    let w1 : Window := ⟨true, true, 0x4000, 0xF800, 0x03FF, .shared .snd⟩
    let w2 : Window := ⟨false, true, 0x7000, 0xF000, 0x0000, .intCtl .p0 11 false⟩
    ((0x43FF#16 ^^^ 0x47FF#16) &&& (w1.mask ||| w1.offmask ||| keyMask w1) = 0#16) ∧
    (0x7800#16 ^^^ 0x7FFF#16) &&& (w2.mask ||| w2.offmask ||| keyMask w2) = 0#16 := by decide

theorem witness_SndMirrorReachesTheSameByte : S1.cfg.decode = refDecode := rfl

/-! ### The step -/

theorem witness_StepRunsTheDecodedInstruction :
    accepted oneTick.cfg = true ∧ oneTick.pending = tickWord :: [] ∧ decode tickWord = .evTick ∧ 0x7FFFFFF < 2 ^ 27 := by
  decide

theorem witness_ConfigurationIsFixed :
    (∃ t, step oneTick = .next t ∧ t.pending.isEmpty = true) ∧ configErrors { refConfig with wdLimit := 0 } ≠ [] :=
  ⟨of_runs (by decide), by decide⟩

/-- TICK; and from a state that holds the secondaries and one that does not, a write and an unmapped read of P0, a read of
P1 and an unmapped write of P2. -/
theorem witness_EveryUnreservedWordHasAStep :
    (accepted oneTick.cfg = true ∧ oneTick.pending = tickWord :: [] ∧ isReservedWord tickWord = false) ∧
    (accepted S0.cfg = true ∧ S0.subrst = true) ∧ (accepted S1.cfg = true ∧ S1.subrst = false) ∧
    isReservedWord 0x147FFFF#27 = false ∧ isReservedWord 0x0180000#27 = false ∧
    isReservedWord 0x207FF00#27 = false ∧ isReservedWord 0x5FFFFFF#27 = false :=
  ⟨by decide, ⟨by decide, rfl⟩, ⟨by decide, rfl⟩, by decide, by decide, by decide, by decide⟩

theorem witness_ReservedWordsAreRefused :
    decode 0x6000300#27 = .evReserved 0x0000300#25 ∧
    (agentOf 0x7000000#27 = 3#2 ∧ (dirOf 0x7000000#27 = 1#1 ∨ isEventCode (addrOf 0x7000000#27) = false)) := by decide

theorem witness_InvariantKeptByEveryStep : Inv oneTick ∧ ∃ t, step oneTick = .next t ∧ decide (t.wd.p0 = 1) = true :=
  ⟨inv_oneTick, of_runs (by decide)⟩

theorem witness_InvariantHoldsAtPowerOn : accepted refConfig = true := by decide

theorem witness_AssertedLineImpliesEnabledLatch :
    IrqOnlyWhenEnabled oneTick ∧ ∃ t, step oneTick = .next t ∧ (!t.irq.p0) = true :=
  ⟨inv_oneTick.irq, of_runs (by decide)⟩

theorem witness_WatchdogCountersStayInRange :
    WatchdogsInRange oneTick ∧ ∃ t, step oneTick = .next t ∧ decide (t.wd.p0 = 1) = true :=
  ⟨inv_oneTick.watchdogs, of_runs (by decide)⟩

theorem witness_LogsAreAppendOnly :
    ∃ t, step { S1 with pending := [tickWord] } = .next t ∧ decide (t.out.length = 2) = true := of_runs (by decide)

/-- A line is asserted by a TICK, and cleared by a disable write, POWERON, SYSRESET (P1) and an expiring TICK. -/
theorem witness_InterruptLinesChangeOnlyAsTheRulesSay :
    (∃ t, exec .evTick { S1 with ie := ⟨true, false, false⟩ } = .next t ∧ t.irq.p0 = true) ∧
    (busy.irq.p0 = true ∧ busy.irq.p1 = true ∧ accepted busy.cfg = true) ∧
    (∃ t, exec (.p0WrIntctl0 0x800 0) busy = .next t ∧ (!t.irq.p0) = true) ∧
    (∃ t, exec .evPoweron busy = .next t ∧ (!t.irq.p0) = true) ∧
    (∃ t, exec .evSysreset busy = .next t ∧ (!t.irq.p1) = true) ∧
    ∃ t, exec .evTick busy = .next t ∧ (!t.irq.p0) = true :=
  ⟨of_runs (by decide), by decide, of_runs (by decide), of_runs (by decide), of_runs (by decide), of_runs (by decide)⟩

theorem witness_EnableLatchesChangeOnlyAsTheRulesSay :
    (∃ t, exec (.p1WrIntctl1 1 0) S1 = .next t ∧ (t.ie.p1 != S1.ie.p1) = true) ∧
    (∃ t, exec .evPoweron busy = .next t ∧ (t.ie.p2 != busy.ie.p2) = true) ∧
    (∃ t, exec .evSysreset busy = .next t ∧ (t.ie.p1 != busy.ie.p1) = true) ∧
    ∃ t, exec .evTick busy = .next t ∧ (t.ie.p0 != busy.ie.p0) = true :=
  ⟨of_runs (by decide), of_runs (by decide), of_runs (by decide), of_runs (by decide)⟩

theorem witness_OnlyAReleaseOfP0WakesTheSecondaries :
    S0.subrst = true ∧ ∃ t, exec (.p0WrSubrst 0x7FF 0) S0 = .next t ∧ (!t.subrst) = true := ⟨rfl, of_runs (by decide)⟩

theorem witness_RegionBytesChangeOnlyByOwnersOrColdReset :
    Inv busy ∧
    (∃ t, exec (.p2WrSnd 0x3FF 0xFF) busy = .next t ∧ (regionRead t .snd 0x3FF != regionRead busy .snd 0x3FF) = true) ∧
    (∃ t, exec .evPoweron busy = .next t ∧ (regionRead t .vram 0x7FF != regionRead busy .vram 0x7FF) = true) ∧
    ∃ t, exec .evTick busy = .next t ∧ (regionRead t .snd 0 != regionRead busy .snd 0) = true :=
  ⟨inv_busy, of_runs (by decide), of_runs (by decide), of_runs (by decide)⟩

/-- P0 writes SND byte 0 through the mirror, P2 reads it. -/
theorem witness_WriteIsVisibleToTheNextRead :
    Inv S1 ∧ Reaches S1 (.p0WrSnd 0x400 0x99) ⟨.p0, .w, 0x4400, 0x99⟩ (.shared .snd 0) ∧
    (∃ t, exec (.p0WrSnd 0x400 0x99) S1 = .next t ∧ (!t.subrst) = true) ∧
    Reaches (regionWrite S1 .snd 0 0x99) (.p2RdSnd 0) ⟨.p2, .r, 0x0000, 0x00⟩ (.shared .snd 0) ∧
    exec (.p0WrSnd 0x400 0x99) S1 = .next (regionWrite S1 .snd 0 0x99) :=
  ⟨inv_S1, ⟨rfl, rfl, by decide⟩, of_runs (by decide), ⟨rfl, rfl, by decide⟩, rfl⟩

theorem witness_NonOwnersAreIsolatedFromARegion :
    accepted busy.cfg = true ∧ Instr.access (.p1RdVram 0x7FF) = some ⟨.p1, .r, 0x07FF, 0x00⟩ ∧
    Region.ownedBy .snd .p1 = false ∧
    ∃ t, exec (.p1RdVram 0x7FF) busy = .next t ∧ decide (t.reply = .data .p1 0x5A) = true :=
  ⟨by decide, rfl, rfl, of_runs (by decide)⟩

/-- One write to each of the four kinds of window, with two data bytes. -/
theorem witness_ControlWritesIgnoreTheDataByte :
    (Instr.access (.p0WrIntctl0 0x800 0x00) = some ⟨.p0, .w, 0x7800, 0x00⟩ ∧
      Instr.access (.p0WrIntctl0 0x800 0xFF) = some ⟨.p0, .w, 0x7800, 0xFF⟩ ∧
      decodeAddr S1.cfg .p0 .w 0x7800 = .intCtl .p0 false) ∧
    (Instr.access (.p0WrSubrst 0x7FF 0x00) = some ⟨.p0, .w, 0x87FF, 0x00⟩ ∧
      decodeAddr S1.cfg .p0 .w 0x87FF = .subRst true) ∧
    (Instr.access (.p0WrIorst 0x800 0x00) = some ⟨.p0, .w, 0x9800, 0x00⟩ ∧
      decodeAddr S1.cfg .p0 .w 0x9800 = .ioRst false) ∧
    Instr.access (.p2WrWdog 0x1FFF 0x00) = some ⟨.p2, .w, 0x3FFF, 0x00⟩ ∧
    decodeAddr S1.cfg .p2 .w 0x3FFF = .watchdog .p2 := by decide

/-! ### Results -/

theorem onRefMap_S1 : OnRefMap S1 := ⟨rfl, by decide⟩

theorem witness_HeldSecondariesPerformNothing :
    Instr.access (.p2WrSnd 0 1) = some ⟨.p2, .w, 0x0000, 0x01⟩ ∧ Proc.p2 ≠ .p0 ∧ S0.subrst = true := by decide

theorem witness_SharedReadsReturnTheByte :
    (accepted S1.cfg = true ∧ Reaches S1 (.p1RdWramB 0x7FF) ⟨.p1, .r, 0x17FF, 0x00⟩ (.shared .wramB 0x7FF)) ∧
    OnRefMap S1 ∧ S1.subrst = false := ⟨⟨by decide, rfl, rfl, by decide⟩, onRefMap_S1, rfl⟩

theorem witness_SharedWritesStoreTheByte :
    (Inv S1 ∧ Reaches S1 (.p0WrSnd 0x7FF 0xFF) ⟨.p0, .w, 0x47FF, 0xFF⟩ (.shared .snd 0x3FF)) ∧
    S1.cfg.decode = refDecode ∧ S1.subrst = false := ⟨⟨inv_S1, rfl, rfl, by decide⟩, rfl, rfl⟩

theorem witness_RomReadsReturnTheImageByte :
    (accepted S1.cfg = true ∧ Reaches S1 (.p2RdRom 0x1FFF) ⟨.p2, .r, 0xFFFF, 0x00⟩ (.rom .p2 0x1FFF)) ∧
    OnRefMap S1 ∧ S1.subrst = false := ⟨⟨by decide, rfl, rfl, by decide⟩, onRefMap_S1, rfl⟩

/-- Slot 0 running, slot 1 in reset, slot 2. -/
theorem witness_IoReadsReturnThePortValue :
    Reaches S1 (.p0RdIo0 0xF) ⟨.p0, .r, 0x680F, 0x00⟩ (.io .s0 3) ∧ S1.iorst = false ∧
    Reaches S0 (.p0RdIo1 0) ⟨.p0, .r, 0x6810, 0x00⟩ (.io .s1 0) ∧ S0.iorst = true ∧
    Reaches S0 (.p0RdIo2 0xF) ⟨.p0, .r, 0x682F, 0x00⟩ (.io .s2 3) ∧ S0.cfg.decode = refDecode :=
  ⟨⟨rfl, rfl, by decide⟩, rfl, ⟨rfl, rfl, by decide⟩, rfl, ⟨rfl, rfl, by decide⟩, rfl⟩

theorem witness_IoWritesDriveTheOutputs :
    Reaches S1 (.p0WrIo0 0xE 0xF7) ⟨.p0, .w, 0x680E, 0xF7⟩ (.io .s0 0) ∧ S1.iorst = false ∧
    S1.cfg.kinds.get .s0 = .playerCoin ∧
    Reaches S0 (.p0WrIo1 0xF 0) ⟨.p0, .w, 0x681F, 0x00⟩ (.io .s1 1) ∧ S0.iorst = true ∧ S0.cfg.decode = refDecode :=
  ⟨⟨rfl, rfl, by decide⟩, rfl, rfl, ⟨rfl, rfl, by decide⟩, rfl, rfl⟩

theorem witness_IntCtlWritesTheEnableLatch :
    Reaches S1 (.p2WrIntctl2 0x1FFF 0) ⟨.p2, .w, 0x5FFF, 0x00⟩ (.intCtl .p2 true) ∧
    Reaches busy (.p0WrIntctl0 0x800 0) ⟨.p0, .w, 0x7800, 0x00⟩ (.intCtl .p0 false) ∧
    S1.cfg.decode = refDecode ∧ S1.subrst = false :=
  ⟨⟨rfl, rfl, by decide⟩, ⟨rfl, rfl, by decide⟩, rfl, rfl⟩

theorem witness_SubRstHoldsBothSecondaries :
    Reaches S0 (.p0WrSubrst 0x7FF 0) ⟨.p0, .w, 0x87FF, 0x00⟩ (.subRst true) ∧
    Reaches busy (.p0WrSubrst 0x800 0) ⟨.p0, .w, 0x8800, 0x00⟩ (.subRst false) ∧ S0.cfg.decode = refDecode :=
  ⟨⟨rfl, rfl, by decide⟩, ⟨rfl, rfl, by decide⟩, rfl⟩

theorem witness_IoRstHoldsBothChips :
    Reaches S0 (.p0WrIorst 0x7FF 0) ⟨.p0, .w, 0x97FF, 0x00⟩ (.ioRst true) ∧
    Reaches S1 (.p0WrIorst 0x800 0) ⟨.p0, .w, 0x9800, 0x00⟩ (.ioRst false) ∧ S0.cfg.decode = refDecode :=
  ⟨⟨rfl, rfl, by decide⟩, ⟨rfl, rfl, by decide⟩, rfl⟩

theorem witness_WatchdogAccessServicesTheCounter :
    accepted busy.cfg = true ∧ Reaches busy (.p0RdWdog 0x7FF) ⟨.p0, .r, 0x7FFF, 0x00⟩ (.watchdog .p0) ∧
    Reaches busy (.p2WrWdog 0 0xFF) ⟨.p2, .w, 0x2000, 0xFF⟩ (.watchdog .p2) ∧ OnRefMap busy ∧ busy.subrst = false :=
  ⟨by decide, ⟨rfl, rfl, by decide⟩, ⟨rfl, rfl, by decide⟩, ⟨rfl, by decide⟩, rfl⟩

/-- The first and last address of ranges of R86. -/
theorem witness_UnmappedAccessRecordsADiagnostic :
    Reaches S0 (.p0RdUnmapped 0x7000) ⟨.p0, .r, 0x7000, 0x00⟩ .unmapped ∧
    Reaches S1 (.p1WrUnmapped 0xFFFF 0x12) ⟨.p1, .w, 0xFFFF, 0x12⟩ .unmapped ∧ S1.cfg.decode = refDecode ∧
    S1.subrst = false ∧ refUnmapped .p0 .r 0x1800 = true ∧ refUnmapped .p0 .w 0xA000 = true ∧
    refUnmapped .p1 .r 0xDFFF = true ∧ refUnmapped .p1 .w 0xE000 = true ∧ refUnmapped .p2 .r 0x7FFF = true ∧
    refUnmapped .p2 .w 0x0400 = true :=
  ⟨⟨rfl, rfl, by decide⟩, ⟨rfl, rfl, by decide⟩, rfl, rfl, by decide, by decide, by decide, by decide, by decide,
    by decide⟩

/-- One transaction for each target. -/
theorem witness_ProcessorTransactionsChangeOnlyTheirTarget :
    accepted busy.cfg = true ∧
    (Reaches busy (.p1RdVram 0x7FF) ⟨.p1, .r, 0x07FF, 0x00⟩ (.shared .vram 0x7FF) ∧
      ∃ t, exec (.p1RdVram 0x7FF) busy = .next t ∧ decide (t.reply = .data .p1 0x5A) = true) ∧
    (Reaches busy (.p0WrWramA 0 1) ⟨.p0, .w, 0x0800, 0x01⟩ (.shared .wramA 0) ∧
      ∃ t, exec (.p0WrWramA 0 1) busy = .next t ∧ decide (t.mem.wramA = [(0, 1)]) = true) ∧
    (Reaches S1rom (.p0RdRom 0x7FFE) ⟨.p0, .r, 0xFFFE, 0x00⟩ (.rom .p0 0x7FFE) ∧
      ∃ t, exec (.p0RdRom 0x7FFE) S1rom = .next t ∧ decide (t.reply = .data .p0 0x80) = true) ∧
    (Reaches busy (.p0WrIo0 0 7) ⟨.p0, .w, 0x6800, 0x07⟩ (.io .s0 0) ∧
      ∃ t, exec (.p0WrIo0 0 7) busy = .next t ∧ decide (t.out = [.coinPulse 0]) = true) ∧
    (Reaches busy (.p0WrIntctl0 0x800 0) ⟨.p0, .w, 0x7800, 0x00⟩ (.intCtl .p0 false) ∧
      ∃ t, exec (.p0WrIntctl0 0x800 0) busy = .next t ∧ (!t.irq.p0) = true) ∧
    (Reaches busy (.p0WrSubrst 0x800 0) ⟨.p0, .w, 0x8800, 0x00⟩ (.subRst false) ∧
      ∃ t, exec (.p0WrSubrst 0x800 0) busy = .next t ∧ decide (t.wd = ⟨7, 0, 0⟩) = true) ∧
    (Reaches busy (.p0WrIorst 0x800 0) ⟨.p0, .w, 0x9800, 0x00⟩ (.ioRst false) ∧
      ∃ t, exec (.p0WrIorst 0x800 0) busy = .next t ∧ t.iorst = true) ∧
    (Reaches busy (.p2WrWdog 0 0) ⟨.p2, .w, 0x2000, 0x00⟩ (.watchdog .p2) ∧
      ∃ t, exec (.p2WrWdog 0 0) busy = .next t ∧ decide (t.wd = ⟨7, 0, 0⟩) = true) ∧
    (Reaches busy (.p2WrUnmapped 0x8000 0) ⟨.p2, .w, 0x8000, 0x00⟩ .unmapped ∧
      ∃ t, exec (.p2WrUnmapped 0x8000 0) busy = .next t ∧ decide (t.diag.length = 1) = true) :=
  ⟨by decide, ⟨⟨rfl, rfl, by decide⟩, of_runs (by decide)⟩, ⟨⟨rfl, rfl, by decide⟩, of_runs (by decide)⟩,
    ⟨⟨rfl, rfl, by decide⟩, of_runs (by decide)⟩, ⟨⟨rfl, rfl, by decide⟩, of_runs (by decide)⟩,
    ⟨⟨rfl, rfl, by decide⟩, of_runs (by decide)⟩, ⟨⟨rfl, rfl, by decide⟩, of_runs (by decide)⟩,
    ⟨⟨rfl, rfl, by decide⟩, of_runs (by decide)⟩, ⟨⟨rfl, rfl, by decide⟩, of_runs (by decide)⟩,
    ⟨⟨rfl, rfl, by decide⟩, of_runs (by decide)⟩⟩

/-! ### Events -/

/-- A TICK that expires no watchdog and one that does: WD_LIMIT - 1 is the boundary. -/
theorem witness_TickDrivesTheFrame :
    (∀ q, ¬(S1.cfg.wdHas.get q = true ∧ resetLine S1 q = false ∧ S1.cfg.wdLimit ≤ S1.wd.get q + 1)) ∧
    WatchdogExpires busy :=
  ⟨fun q => by cases q <;> decide, .p0, by decide⟩

theorem witness_InputsChangeOnlyBySetIn :
    accepted S0.cfg = true ∧ ∃ t, exec (.evSetinDswb 0xC0) S0 = .next t ∧ (t.inp != S0.inp) = true :=
  ⟨by decide, of_runs (by decide)⟩

theorem witness_LostInterruptIsNotDeliveredLater :
    IrqOnlyWhenEnabled S1 ∧ S1.ie.get .p0 = false ∧ exec .evTick S1 = .next (tick S1) ∧
    Reaches (tick S1) (.p0WrIntctl0 0 0) ⟨.p0, .w, 0x7000, 0x00⟩ (.intCtl .p0 true) ∧
    ∃ u, exec (.p0WrIntctl0 0 0) (tick S1) = .next u ∧ u.ie.p0 = true :=
  ⟨inv_S1.irq, rfl, rfl, ⟨rfl, rfl, by decide⟩, of_runs (by decide)⟩

/-- Seven TICKs, one short of WD_LIMIT = 8, and eight. -/
theorem witness_WatchdogExpiresAtTheLimit :
    let seven : State := { S1 with pending := List.replicate 7 tickWord ++ [] }
    let eight : State := { S1 with pending := List.replicate 8 tickWord ++ [0x1700000#27] }
    accepted seven.cfg = true ∧ seven.wd = ⟨0, 0, 0⟩ ∧ 7 < seven.cfg.wdLimit ∧
    accepted eight.cfg = true ∧ eight.wd = ⟨0, 0, 0⟩ ∧ 8 = eight.cfg.wdLimit ∧
    ∃ q, eight.cfg.wdHas.get q = true ∧ resetLine eight q = false :=
  ⟨by decide, by decide, by decide, by decide, by decide, by decide, .p2, by decide⟩

/-- A read of slot 1, a write of slot 0, and an instruction that reaches neither. -/
theorem witness_RevisionSwapExchangesTheSlots :
    Slot.s1 ≠ .s2 ∧ Reaches S1 (.p0RdIo1 1) ⟨.p0, .r, 0x6811, 0x00⟩ (.io .s1 1) ∧
    Reaches S1 (.p0WrIo0 0xF 0) ⟨.p0, .w, 0x680F, 0x00⟩ (.io .s0 1) ∧
    ¬∃ x slot idx, slot ≠ Slot.s2 ∧ Reaches S1 .evTick x (.io slot idx) :=
  ⟨by decide, ⟨rfl, rfl, by decide⟩, ⟨rfl, rfl, by decide⟩, fun ⟨_, _, _, _, h, _⟩ => by cases h⟩

/-! ### Under any configuration -/

/-- A configuration with P1's IntCtl window in P0's table and the SubRst window elsewhere, keyed by A4 at level 1. -/
def otherConfig : Config :=
  withP0 (fun ws => (ws.set 9 ⟨false, true, 0xA000, 0xF000, 0, .subRst 4 true⟩) ++
    [⟨false, true, 0xB000, 0xF000, 0, .intCtl .p1 11 false⟩])

theorem witness_PseudoTransactionsFollowTheConfiguration :
    (accepted otherConfig = true ∧ expandIn otherConfig .subrun = some (.wr .p0 0xA010 0x00) ∧
      decodeAddr otherConfig .p0 .w 0xA010 = pseudoTarget .subrun) ∧
    (accepted shadowedConfig = true ∧ decodeAddr shadowedConfig .p0 .w 0x7010 = pseudoTarget .ien0 ∧
      decodeAddr shadowedConfig .p0 .w 0x7000 ≠ pseudoTarget .ien0) := by decide

theorem witness_RegeneratedRowsFollowTheDecoder :
    agentOf 0x1B00000#27 = Proc.p0.agent ∧ dirOf 0x1B00000#27 = Dir.w.bit ∧
    (∀ v ∈ otherConfig.decode.get .p0, v.hits .w (addrOf 0x1800000#27) = false) ∧
    (otherConfig.decode.get .p0 = (otherConfig.decode.get .p0).take 12 ++
      ⟨false, true, 0xB000, 0xF000, 0, .intCtl .p1 11 false⟩ :: []) ∧
    (∀ v ∈ (otherConfig.decode.get .p0).take 12, v.hits .w (addrOf 0x1B00000#27) = false) ∧
    Window.hits ⟨false, true, 0xB000, 0xF000, 0, .intCtl .p1 11 false⟩ .w (addrOf 0x1B00000#27) = true := by decide

theorem witness_AbnormalEventsHaveTheirCodes :
    Reaches S0 (.p0RdUnmapped 0x7000) ⟨.p0, .r, 0x7000, 0x00⟩ .unmapped ∧
    configErrors { refConfig with wdLimit := 0 } ≠ [] := ⟨⟨rfl, rfl, by decide⟩, by decide⟩

end Sys2Proof.Tests
end

section
/-! Reaching a target: a processor's transaction, once it reaches a target, is that target's rule. -/

namespace Sys2Proof.Proofs

open Sys2Proof.Machine Sys2Proof.Claims

/-- A transaction of a running processor is the rule of the target it reaches (R106). -/
theorem exec_of_reaches {s : State} {i : Instr} {x : Access} {g : Target} (h : Reaches s i x g) :
    exec i s = targetRule x.proc x.dir x.addr x.data g s := by
  obtain ⟨hx, hrun, rfl⟩ := h
  rw [exec_of_access i s x hx, procStep, hrun]
  rfl

/-- Under an accepted configuration the rule of a reached target can serve the access (R183). -/
theorem targetOk_of_reaches {s : State} {i : Instr} {x : Access} {g : Target} (hc : accepted s.cfg = true)
    (h : Reaches s i x g) : TargetOk s.cfg x.proc x.dir g := by
  obtain ⟨-, -, rfl⟩ := h
  exact decodeAddr_ok s.cfg hc x.proc x.dir x.addr

/-- The bits a row fixes, read off an address of the row. -/
theorem toNat_append_div {n k : Nat} (fixed : BitVec n) (low : BitVec k) :
    (fixed ++ low).toNat / 2 ^ k = fixed.toNat := by
  rw [toNat_append_low, Nat.mul_comm, Nat.mul_add_div (Nat.two_pow_pos k), Nat.div_eq_of_lt low.isLt, Nat.add_zero]

/-- On the reference map an access reaches the target that the reference table of its processor gives. -/
theorem reaches_ref {s : State} {i : Instr} {x : Access} {g : Target} (hmap : s.cfg.decode = refDecode)
    (hx : i.access = some x) (hrun : resetLine s x.proc = false)
    (hg : decodeWindows (refDecode.get x.proc) x.dir x.addr = g) : Reaches s i x g :=
  ⟨hx, hrun, (decodeAddr_ref hmap x.proc x.dir x.addr).trans hg⟩

end Sys2Proof.Proofs
end

section
/-! Watchdog accesses (R156). -/

namespace Sys2Proof.Proofs

open Sys2Proof.Machine Sys2Proof.Claims

theorem watchdogAccess_read {s : State} {p : Proc} (hw : s.cfg.wdHas.get p = true) :
    watchdogAccess p .r p s = .next (servicedRead s p) := by
  rw [watchdogAccess, if_pos hw]
  rfl

theorem watchdogAccess_write {s : State} {q : Proc} (p : Proc) (hw : s.cfg.wdHas.get q = true) :
    watchdogAccess p .w q s = .next { s with wd := s.wd.set q 0 } := by
  rw [watchdogAccess, if_pos hw]
  rfl

/-- A watchdog window is its own processor's (W7), and a read of it services the counter. -/
theorem exec_watchdog_read {s : State} {i : Instr} {p q : Proc} {a : Addr} {d : Byte} (hc : accepted s.cfg = true)
    (h : Reaches s i ⟨p, .r, a, d⟩ (.watchdog q)) : exec i s = .next (servicedRead s q) := by
  obtain ⟨rfl, hw⟩ := targetOk_of_reaches hc h
  rw [exec_of_reaches h]
  exact watchdogAccess_read hw

theorem exec_watchdog_write {s : State} {i : Instr} {p q : Proc} {a : Addr} {d : Byte} (hc : accepted s.cfg = true)
    (h : Reaches s i ⟨p, .w, a, d⟩ (.watchdog q)) : exec i s = .next { s with wd := s.wd.set q 0 } := by
  obtain ⟨-, hw⟩ := targetOk_of_reaches hc h
  rw [exec_of_reaches h]
  exact watchdogAccess_write p hw

/-! The three watchdog rows of the reference map (W0.9, W2.2). -/

theorem refTarget_p0RdWdog (low : BitVec 11) : decodeWindows refDecodeP0 .r (0x0F#5 ++ low) = .watchdog .p0 := by
  have ha : (0x0F#5 ++ low).toNat / 2048 = 15 := toNat_append_div _ low
  rw [refTarget_p0_r]
  repeat rw [if_neg (by omega)]
  exact if_pos ha

theorem refTarget_p2Wdog (dir : Dir) (low : BitVec 13) :
    decodeWindows refDecodeP2 dir (0x1#3 ++ low) = .watchdog .p2 := by
  have ha : (0x1#3 ++ low).toNat / 8192 = 1 := toNat_append_div _ low
  cases dir
  · rw [refTarget_p2_r, if_neg (by omega), if_pos ha]
  · rw [refTarget_p2_w, if_neg (by omega), if_pos ha]

/-- Settles O39: W7 makes a reached watchdog the accessor's own, and the reference rows reach theirs. -/
theorem watchdogAccessServicesTheCounter : Obligations.WatchdogAccessServicesTheCounter := by
  refine ⟨fun s i x q hc h => ?_, fun s ⟨hmap, hc⟩ => ⟨fun low => ?_, fun hrun => ⟨fun low => ?_, fun low d => ?_⟩⟩⟩
  · obtain ⟨p, dir, a, d⟩ := x
    obtain ⟨hq, -⟩ := targetOk_of_reaches hc h
    refine ⟨hq, ?_, ?_⟩
    · rintro rfl
      exact exec_watchdog_read hc h
    · rintro rfl
      exact exec_watchdog_write hc h
  · exact exec_watchdog_read hc (reaches_ref hmap rfl rfl (refTarget_p0RdWdog low))
  · exact exec_watchdog_read hc (reaches_ref hmap rfl hrun (refTarget_p2Wdog .r low))
  · exact exec_watchdog_write hc (reaches_ref hmap rfl hrun (refTarget_p2Wdog .w low))

end Sys2Proof.Proofs
end

section
/-! Unmapped accesses (R158). -/

namespace Sys2Proof.Proofs

open Sys2Proof.Machine Sys2Proof.Claims

/-- The data of a read is no operand: it stands as the canonical 0x00 (R71). -/
theorem access_read_data {i : Instr} {x : Access} (hx : i.access = some x) (hd : x.dir = .r) : x.data = 0x00#8 := by
  cases i <;> cases hx <;> cases hd <;> rfl

/-- An unmapped read records the address and the data byte its instruction carries, which is 0x00 for a read. -/
theorem exec_unmapped_read {s : State} {i : Instr} {p : Proc} {a : Addr} {d : Byte}
    (h : Reaches s i ⟨p, .r, a, d⟩ .unmapped) : exec i s = .next (unmappedRead s p a) := by
  obtain rfl : d = 0x00#8 := access_read_data h.1 rfl
  exact exec_of_reaches h

theorem exec_unmapped_write {s : State} {i : Instr} {p : Proc} {a : Addr} {d : Byte}
    (h : Reaches s i ⟨p, .w, a, d⟩ .unmapped) : exec i s = .next (unmappedWrite s p a d) :=
  exec_of_reaches h

/-- The reference tables leave exactly the ranges of R86 unmapped: an address is unmapped when it fails every test of
its table, which is arithmetic on the address. -/
theorem refTarget_unmapped_iff (p : Proc) (dir : Dir) (a : Addr) :
    decodeWindows (refDecode.get p) dir a = .unmapped ↔ refUnmapped p dir a = true := by
  have ha := a.isLt
  cases p <;> cases dir <;>
    simp only [refDecode, PerProc.get, refTarget_p0_r, refTarget_p0_w, refTarget_p1_r, refTarget_p1_w, refTarget_p2_r,
      refTarget_p2_w, ite_eq_iff, reduceCtorEq, and_false, false_or, and_true, refUnmapped, inRange, Bool.or_eq_true,
      Bool.and_eq_true, decide_eq_true_eq] <;>
    omega

/-- On the reference map every address of R86 reaches Unmapped. -/
theorem reaches_refUnmapped {s : State} {i : Instr} {x : Access} (hmap : s.cfg.decode = refDecode)
    (hx : i.access = some x) (hrun : resetLine s x.proc = false) (ha : refUnmapped x.proc x.dir x.addr = true) :
    Reaches s i x .unmapped :=
  reaches_ref hmap hx hrun ((refTarget_unmapped_iff x.proc x.dir x.addr).mpr ha)

/-- Settles O40: the unmapped rule in both directions, and the six rows at the addresses the tables leave open. -/
theorem unmappedAccessRecordsADiagnostic : Obligations.UnmappedAccessRecordsADiagnostic := by
  refine ⟨fun s i x h => ?_, fun s hmap => ⟨fun a ha => ?_, fun a d ha => ?_, fun hrun =>
    ⟨fun a ha => ?_, fun a d ha => ?_, fun a ha => ?_, fun a d ha => ?_⟩⟩⟩
  · obtain ⟨p, dir, a, d⟩ := x
    constructor
    · rintro rfl
      exact exec_unmapped_read h
    · rintro rfl
      exact exec_unmapped_write h
  · exact exec_unmapped_read (reaches_refUnmapped hmap rfl rfl ha)
  · exact exec_unmapped_write (reaches_refUnmapped hmap rfl rfl ha)
  · exact exec_unmapped_read (reaches_refUnmapped hmap rfl hrun ha)
  · exact exec_unmapped_write (reaches_refUnmapped hmap rfl hrun ha)
  · exact exec_unmapped_read (reaches_refUnmapped hmap rfl hrun ha)
  · exact exec_unmapped_write (reaches_refUnmapped hmap rfl hrun ha)

end Sys2Proof.Proofs
end

section
/-! What a step does to each field of the invariant, read off the effects of `StepEffect`; and the invariants that
follow (10_state.md). -/

namespace Sys2Proof.Proofs

open Sys2Proof.Machine Sys2Proof.Claims

/-! ### What a step does to the configuration, the counters and the memory -/

theorem cfg_of_busEffect {p : Proc} {dir : Dir} {a : Addr} {d : Byte} {s t : State} (h : BusEffect p dir a d s t) :
    t.cfg = s.cfg := by
  cases h <;> simp

theorem cfg_of_stepEffect {s t : State} (h : StepEffect s t) : t.cfg = s.cfg := by
  cases h with
  | bus p dir a d h => exact cfg_of_busEffect h
  | tick => obtain ⟨-, ht⟩ | ⟨-, ht⟩ := tick_cases s <;> simp [ht]
  | poweron => exact coldInit_cfg s
  | sysreset => exact sysReset_cfg s
  | setin g b => rfl

/-- A watchdog access and a SubRst hold zero counters of WD_HAS; no other transaction writes one (R152, R156). -/
theorem wd_of_busEffect {p : Proc} {dir : Dir} {a : Addr} {d : Byte} {s t : State} (h : BusEffect p dir a d s t)
    (q : Proc) : t.wd.get q = s.wd.get q ∨ s.cfg.wdHas.get q = true ∧ t.wd.get q = 0 := by
  have serviced (hw : s.cfg.wdHas.get p = true) :
      (s.wd.set p 0).get q = s.wd.get q ∨ s.cfg.wdHas.get q = true ∧ (s.wd.set p 0).get q = 0 := by
    by_cases hq : q = p
    · subst hq
      exact .inr ⟨hw, perProc_get_set_same ..⟩
    · exact .inl (perProc_get_set_other _ _ _ _ hq)
  cases h with
  | subRst lvl =>
    rw [subRstWrite_wd_get]
    split
    · next h => exact .inr ⟨h.2.2, rfl⟩
    · exact .inl rfl
  | watchdogRead _ hw => exact serviced hw
  | watchdogWrite _ hw => exact serviced hw
  | _ => exact .inl (by simp)

/-- A counter is kept, zeroed, or counted by a TICK that it does not reach WD_LIMIT in (R30). -/
theorem wd_of_stepEffect {s t : State} (h : StepEffect s t) (q : Proc) :
    t.wd.get q = s.wd.get q ∨ s.cfg.wdHas.get q = true ∧ t.wd.get q = 0 ∨
      counts s q = true ∧ t.wd.get q = s.wd.get q + 1 ∧ s.wd.get q + 1 < s.cfg.wdLimit := by
  have zeroed : (if s.cfg.wdHas.get q then 0 else s.wd.get q) = s.wd.get q ∨
      s.cfg.wdHas.get q = true ∧ (if s.cfg.wdHas.get q then 0 else s.wd.get q) = 0 := by
    cases s.cfg.wdHas.get q <;> simp
  cases h with
  | bus p dir a d h => exact (wd_of_busEffect h q).imp_right .inl
  | tick =>
    obtain ⟨hnone, ht⟩ | ⟨-, ht⟩ := tick_cases s
    · have hq := hnone q
      rw [hasExpired_counted] at hq
      rw [ht, counted_wd_get]
      cases hc : counts s q
      · exact .inl rfl
      · simp only [hc, Bool.true_and, decide_eq_false_iff_not, not_le] at hq
        exact .inr (.inr ⟨rfl, rfl, hq⟩)
    · rw [ht, coldInit_wd_get]
      cases hw : s.cfg.wdHas.get q
      · simp [counted_wd_get, counts, hw]
      · simp [hw]
  | poweron => rw [coldInit_wd_get]; exact zeroed.imp_right .inl
  | sysreset => rw [sysReset_wd_get]; exact zeroed.imp_right .inl
  | setin g b => exact .inl rfl

/-- A step that holds the secondaries zeroes their counters (R152, R210, R212). -/
theorem subrst_of_stepEffect {s t : State} (h : StepEffect s t) :
    t.subrst = s.subrst ∨ t.subrst = false ∨ ∀ q, q ≠ .p0 → s.cfg.wdHas.get q = true → t.wd.get q = 0 := by
  cases h with
  | bus p dir a d h =>
    cases h with
    | subRst lvl =>
      cases lvl
      · exact .inr (.inr fun q hq hw => by simp [subRstWrite_wd_get, hq, hw])
      · exact .inr (.inl (subRstWrite_subrst true s))
    | _ => exact .inl (by simp)
  | tick =>
    obtain ⟨-, ht⟩ | ⟨-, ht⟩ := tick_cases s
    · exact .inl (by simp [ht])
    · exact .inr (.inr fun q _ hw => by simp [ht, coldInit_wd_get, hw])
  | poweron => exact .inr (.inr fun q _ hw => by simp [coldInit_wd_get, hw])
  | sysreset => exact .inr (.inr fun q _ hw => by simp [sysReset_wd_get, hw])
  | setin g b => exact .inl rfl

/-- The regions are kept, written at one byte of a region, or emptied by a cold-style reset (R52, R210). -/
theorem mem_of_stepEffect {s t : State} (h : StepEffect s t) :
    t.mem = s.mem ∨
    (∃ r off v, off < s.cfg.regionSize.get r ∧ t.mem = s.mem.set r (Memory.write (s.mem.get r) off v)) ∨
    t.mem = ⟨[], [], [], []⟩ := by
  cases h with
  | bus p dir a d h =>
    cases h with
    | sharedWrite r off _ ho => exact .inr (.inl ⟨r, off, d, ho, rfl⟩)
    | _ => exact .inl (by simp)
  | tick =>
    obtain ⟨-, ht⟩ | ⟨-, ht⟩ := tick_cases s
    · exact .inl (by simp [ht])
    · exact .inr (.inr (by simp [ht]))
  | poweron => exact .inr (.inr (coldInit_mem s))
  | sysreset => exact .inl (sysReset_mem s)
  | setin g b => exact .inl rfl

/-! ### Each part of the invariant is kept -/

/-- A latch written, and its line cleared where the latch is: the promise of R25 is kept. -/
theorem irqOnlyWhenEnabled_of_clear {s t : State} {q : Proc} {lvl : Bool} (h : IrqOnlyWhenEnabled s)
    (hie : t.ie = s.ie.set q lvl) (hirq : t.irq = if lvl then s.irq else s.irq.set q false) :
    IrqOnlyWhenEnabled t := by
  intro p hp
  rw [hirq] at hp
  rw [hie]
  by_cases hq : p = q
  · subst hq
    cases lvl
    · simp at hp
    · exact perProc_get_set_same ..
  · rw [perProc_get_set_other _ _ _ _ hq]
    cases lvl
    · simp only [Bool.false_eq_true, if_false, perProc_get_set_other _ _ _ _ hq] at hp
      exact h p hp
    · exact h p hp

theorem irqOnlyWhenEnabled_of_noLine {t : State} (hirq : t.irq = ⟨false, false, false⟩) : IrqOnlyWhenEnabled t := by
  intro p hp
  rw [hirq] at hp
  cases p <;> cases hp

theorem irqOnlyWhenEnabled_of_same {s t : State} (h : IrqOnlyWhenEnabled s) (hie : t.ie = s.ie) (hirq : t.irq = s.irq) :
    IrqOnlyWhenEnabled t := by
  intro p hp
  rw [hie]
  exact h p (hirq ▸ hp)

theorem irqOnlyWhenEnabled_of_stepEffect {s t : State} (h : IrqOnlyWhenEnabled s) (he : StepEffect s t) :
    IrqOnlyWhenEnabled t := by
  cases he with
  | bus p dir a d hb =>
    cases hb with
    | intCtl q lvl => exact irqOnlyWhenEnabled_of_clear h rfl rfl
    | _ => exact irqOnlyWhenEnabled_of_same h (by simp) (by simp)
  | tick =>
    obtain ⟨-, ht⟩ | ⟨-, ht⟩ := tick_cases s
    · intro p hp
      rw [ht, counted_irq_get, Bool.or_eq_true] at hp
      rw [ht, counted_ie]
      exact hp.elim (h p) id
    · exact irqOnlyWhenEnabled_of_noLine (by simp [ht])
  | poweron => exact irqOnlyWhenEnabled_of_noLine (coldInit_irq s)
  | sysreset => exact irqOnlyWhenEnabled_of_clear (lvl := false) h (sysReset_ie s) (sysReset_irq s)
  | setin g b => exact h

theorem watchdogsInRange_of_stepEffect {s t : State} (h : WatchdogsInRange s) (he : StepEffect s t) :
    WatchdogsInRange t := by
  intro p
  have hp := h p
  rw [cfg_of_stepEffect he]
  obtain ht | ⟨hw, ht⟩ | ⟨hcount, ht, hlimit⟩ := wd_of_stepEffect he p
  · rwa [ht]
  · rw [if_pos hw] at hp ⊢
    omega
  · rw [counts, Bool.and_eq_true] at hcount
    rw [if_pos hcount.1]
    omega

theorem heldWatchdogsZero_iff (s : State) :
    HeldWatchdogsZero s ↔ (s.subrst = true → ∀ q, q ≠ .p0 → s.wd.get q = 0) := by
  constructor
  · intro h hs q hq
    cases q
    · exact absurd rfl hq
    · exact (h hs).1
    · exact (h hs).2
  · exact fun h hs => ⟨h hs .p1 (by decide), h hs .p2 (by decide)⟩

/-- No counter of a held secondary counts (R170). -/
theorem counts_held {s : State} {q : Proc} (hs : s.subrst = true) (hq : q ≠ .p0) : counts s q = false := by
  cases q
  · exact absurd rfl hq
  · simp [counts, resetLine, hs]
  · simp [counts, resetLine, hs]

theorem heldWatchdogsZero_of_stepEffect {s t : State} (hw : WatchdogsInRange s) (h : HeldWatchdogsZero s)
    (he : StepEffect s t) : HeldWatchdogsZero t := by
  rw [heldWatchdogsZero_iff] at h ⊢
  intro hs q hq
  obtain hsame | hrun | hzero := subrst_of_stepEffect he
  · rw [hsame] at hs
    obtain ht | ⟨-, ht⟩ | ⟨hcount, -⟩ := wd_of_stepEffect he q
    · rw [ht, h hs q hq]
    · exact ht
    · rw [counts_held hs hq] at hcount
      cases hcount
  · rw [hs] at hrun
    cases hrun
  · by_cases hhas : s.cfg.wdHas.get q = true
    · exact hzero q hq hhas
    · have ht := watchdogsInRange_of_stepEffect hw he q
      rwa [cfg_of_stepEffect he, if_neg hhas] at ht

theorem regionsCanonical_of_stepEffect {s t : State} (h : RegionsCanonical s) (he : StepEffect s t) :
    RegionsCanonical t := by
  intro r
  rw [cfg_of_stepEffect he]
  obtain ht | ⟨q, off, v, ho, ht⟩ | ht := mem_of_stepEffect he
  · rw [ht]
    exact h r
  · rw [ht]
    by_cases hr : r = q
    · subst hr
      rw [perRegion_get_set_same]
      exact ⟨memory_wf_write _ _ _ (h r).1, memory_below_write _ _ _ _ ho (h r).2⟩
    · rw [perRegion_get_set_other _ _ _ _ hr]
      exact h r
  · rw [ht]
    cases r <;> exact ⟨rfl, rfl⟩

/-! ### The invariants -/

/-- A step has its effect in the state with the first word taken. -/
theorem stepEffect_of_step {s t : State} (h : step s = .next t) : ∃ rest, StepEffect (taken s rest) t := by
  obtain ⟨-, -, rest, -, -, he⟩ := step_effect s t h
  exact ⟨rest, he⟩


theorem inv_of_stepEffect {s t : State} (h : Inv s) (he : StepEffect s t) : Inv t where
  config := by rw [cfg_of_stepEffect he]; exact h.config
  irq := irqOnlyWhenEnabled_of_stepEffect h.irq he
  watchdogs := watchdogsInRange_of_stepEffect h.watchdogs he
  held := heldWatchdogsZero_of_stepEffect h.watchdogs h.held he
  regions := regionsCanonical_of_stepEffect h.regions he

/-- What a step takes off the schedule is no field of the invariant. -/
theorem inv_taken {s : State} (h : Inv s) (rest : List TxWord) : Inv (taken s rest) :=
  ⟨h.config, h.irq, h.watchdogs, h.held, h.regions⟩

/-- Settles O17: each part of the invariant is kept by every effect of a step. -/
theorem invariantKeptByEveryStep : Obligations.InvariantKeptByEveryStep := by
  intro s t h hstep
  obtain ⟨rest, he⟩ := stepEffect_of_step hstep
  exact inv_of_stepEffect (inv_taken h rest) he

/-- Settles O20: no line is asserted at power-on, and every effect keeps R25. -/
theorem assertedLineImpliesEnabledLatch : Obligations.AssertedLineImpliesEnabledLatch := by
  refine ⟨fun c => irqOnlyWhenEnabled_of_noLine rfl, fun s t h hstep => ?_⟩
  obtain ⟨rest, he⟩ := stepEffect_of_step hstep
  exact irqOnlyWhenEnabled_of_stepEffect (s := taken s rest) h he

/-- Settles O14: no effect writes the configuration, and the test of `step` is the list of failed checks being empty. -/
theorem configurationIsFixed : Obligations.ConfigurationIsFixed := by
  refine ⟨fun s t hstep => ?_, fun s herr => ?_⟩
  · obtain ⟨rest, he⟩ := stepEffect_of_step hstep
    exact (cfg_of_stepEffect he).trans (taken_cfg s rest)
  · have hrefused : ¬ accepted s.cfg = true := by simpa [accepted] using herr
    rw [step, if_neg hrefused]

/-- Settles O21: a counter that a TICK advances stays below WD_LIMIT, and every other step keeps it or zeroes it. -/
theorem watchdogCountersStayInRange : Obligations.WatchdogCountersStayInRange := by
  intro s t h hstep
  obtain ⟨rest, he⟩ := stepEffect_of_step hstep
  exact watchdogsInRange_of_stepEffect (s := taken s rest) h he

/-- At power-on no line is asserted, every counter is 0, which W12 puts below the limit, and every region is empty. -/
theorem inv_powerOn {c : Config} (hc : accepted c = true) : Inv (State.powerOn c) where
  config := hc
  irq := irqOnlyWhenEnabled_of_noLine rfl
  watchdogs := by
    have hlimit : 0 < c.wdLimit := wdLimit_pos c hc
    intro p
    have hzero : (State.powerOn c).wd.get p = 0 := by cases p <;> rfl
    rw [hzero]
    split
    · exact hlimit
    · rfl
  held := fun _ => ⟨rfl, rfl⟩
  regions := fun r => by cases r <;> exact ⟨rfl, rfl⟩

/-- Settles O18: REFCFG passes the checks of R183, so `State.reset` is one more power-on state. -/
theorem invariantHoldsAtPowerOn : Obligations.InvariantHoldsAtPowerOn :=
  ⟨fun _ hc => inv_powerOn hc, inv_powerOn (c := refConfig) (by decide)⟩

/-- Settles O19: the fields of S0 as R42 lists them. -/
theorem runStartsAtPowerOn : Obligations.RunStartsAtPowerOn := by
  refine ⟨fun c => ⟨fun p => ?_, rfl, rfl, rfl, rfl, rfl, fun r off => ?_, rfl, rfl, rfl, rfl, rfl, rfl⟩, rfl⟩
  · cases p <;> exact ⟨rfl, rfl, rfl⟩
  · exact regionRead_empty _ rfl r off

end Sys2Proof.Proofs
end

section
/-! The two append-only logs (R36). -/

namespace Sys2Proof.Proofs

open Sys2Proof.Machine Sys2Proof.Claims

theorem prefix_coinWrite (b : Bool) (l : List OutEvent) (e : OutEvent) : l <+: if b then l else l ++ [e] := by
  cases b
  · exact List.prefix_append l [e]
  · exact List.prefix_rfl

/-- Only a coin port appends to `out`, one pulse at most (R140, R141). -/
theorem out_prefix_of_busEffect {p : Proc} {dir : Dir} {a : Addr} {d : Byte} {s t : State}
    (h : BusEffect p dir a d s t) : s.out <+: t.out := by
  cases h with
  | ioWrite slot idx =>
    obtain ⟨-, ht⟩ | ⟨-, ht⟩ := ioWrite_cases slot idx d s
    · simp [ht]
    · rw [ht]
      split
      · rw [coinPort0_out]; exact prefix_coinWrite ..
      · rw [coinPort1_out]; exact prefix_coinWrite ..
  | _ => simp

/-- Only an unmapped access records a diagnostic (R158, R181). -/
theorem diag_prefix_of_busEffect {p : Proc} {dir : Dir} {a : Addr} {d : Byte} {s t : State}
    (h : BusEffect p dir a d s t) : s.diag <+: t.diag := by
  cases h with
  | unmapped => rw [unmappedAccess_diag]; exact List.prefix_append ..
  | _ => simp

theorem out_prefix_counted (s : State) : s.out <+: (counted s).out := by
  rw [counted_out]
  split
  · exact List.prefix_rfl
  · exact List.prefix_append ..

theorem out_prefix_of_stepEffect {s t : State} (h : StepEffect s t) : s.out <+: t.out := by
  cases h with
  | bus p dir a d h => exact out_prefix_of_busEffect h
  | tick =>
    obtain ⟨-, ht⟩ | ⟨-, ht⟩ := tick_cases s
    · exact ht ▸ out_prefix_counted s
    · rw [ht, coldInit_out, List.append_assoc]
      exact (out_prefix_counted s).trans (List.prefix_append ..)
  | poweron => rw [coldInit_out]; exact List.prefix_append ..
  | sysreset => rw [sysReset_out]; exact List.prefix_append ..
  | setin g b => exact List.prefix_rfl

theorem diag_prefix_of_stepEffect {s t : State} (h : StepEffect s t) : s.diag <+: t.diag := by
  cases h with
  | bus p dir a d h => exact diag_prefix_of_busEffect h
  | tick => obtain ⟨-, ht⟩ | ⟨-, ht⟩ := tick_cases s <;> simp [ht]
  | poweron => simp
  | sysreset => simp
  | setin g b => exact List.prefix_rfl

/-- Settles O22: whatever the effect, the new log starts with the old one. -/
theorem logsAreAppendOnly : Obligations.LogsAreAppendOnly := by
  refine ⟨fun s t hstep => ?_, fun c => ⟨rfl, rfl⟩⟩
  obtain ⟨rest, he⟩ := stepEffect_of_step hstep
  obtain ⟨diag, hdiag⟩ := diag_prefix_of_stepEffect he
  obtain ⟨out, hout⟩ := out_prefix_of_stepEffect he
  exact ⟨⟨diag, hdiag.symm⟩, ⟨out, hout.symm⟩⟩

end Sys2Proof.Proofs
end

section
/-! What an instruction that answers a next state has done, together with the target its access reached: the causes that
the statements on changes ask for. `StepEffect` says what changed; here it is said of which target. -/

namespace Sys2Proof.Proofs

open Sys2Proof.Machine Sys2Proof.Claims

/-- The rule of R106 that served a target, with the directions and offsets it serves. -/
inductive Served (x : Access) (s : State) : Target → State → Prop
  | sharedRead (r : Region) (off : Nat) (hd : x.dir = .r) (ho : off < s.cfg.regionSize.get r) :
      Served x s (.shared r off) (answer x.proc (regionRead s r off) s)
  | sharedWrite (r : Region) (off : Nat) (hd : x.dir = .w) (ho : off < s.cfg.regionSize.get r) :
      Served x s (.shared r off) (regionWrite s r off x.data)
  | rom (b : Proc) (off : Nat) (hd : x.dir = .r) (ho : off < (s.cfg.rom.get b).size) :
      Served x s (.rom b off) (answer x.proc (romRead s.cfg b off) s)
  | ioRead (slot : Slot) (idx : Nat) (hd : x.dir = .r) : Served x s (.io slot idx) (ioRead x.proc slot idx s)
  | ioWrite (slot : Slot) (idx : Nat) (hd : x.dir = .w) : Served x s (.io slot idx) (ioWrite slot idx x.data s)
  | intCtl (q : Proc) (lvl : Bool) (hd : x.dir = .w) : Served x s (.intCtl q lvl) (intCtlWrite q lvl s)
  | subRst (lvl : Bool) (hd : x.dir = .w) : Served x s (.subRst lvl) (subRstWrite lvl s)
  | ioRst (lvl : Bool) (hd : x.dir = .w) : Served x s (.ioRst lvl) (ioRstWrite lvl s)
  | watchdogRead (q : Proc) (hd : x.dir = .r) (hw : s.cfg.wdHas.get q = true) :
      Served x s (.watchdog q) (answerDraw x.proc (serviceWatchdog q s))
  | watchdogWrite (q : Proc) (hd : x.dir = .w) (hw : s.cfg.wdHas.get q = true) :
      Served x s (.watchdog q) (serviceWatchdog q s)
  | unmapped : Served x s .unmapped (unmappedAccess x.proc x.dir x.addr x.data s)

/-- The rule of a target, where it answers a next state, serves that target. -/
theorem served_of_targetRule {x : Access} {s t : State} {g : Target}
    (h : targetRule x.proc x.dir x.addr x.data g s = .next t) : Served x s g t := by
  obtain ⟨p, dir, a, d⟩ := x
  cases g with
  | shared r off =>
    by_cases ho : off < s.cfg.regionSize.get r
    · cases dir <;> simp only [targetRule, sharedRead, sharedWrite, if_pos ho] at h <;> cases h
      · exact .sharedRead r off rfl ho
      · exact .sharedWrite r off rfl ho
    · cases dir <;> simp [targetRule, sharedRead, sharedWrite, ho] at h
  | rom b off =>
    cases dir
    · by_cases ho : off < (s.cfg.rom.get b).size
      · simp only [targetRule, romAccess, if_pos ho] at h
        cases h
        exact .rom b off rfl ho
      · simp [targetRule, romAccess, ho] at h
    · cases h
  | io slot idx =>
    cases dir <;> cases h
    · exact .ioRead slot idx rfl
    · exact .ioWrite slot idx rfl
  | intCtl q lvl =>
    cases dir <;> cases h
    exact .intCtl q lvl rfl
  | subRst lvl =>
    cases dir <;> cases h
    exact .subRst lvl rfl
  | ioRst lvl =>
    cases dir <;> cases h
    exact .ioRst lvl rfl
  | watchdog q =>
    by_cases hw : s.cfg.wdHas.get q = true
    · cases dir <;> simp only [targetRule, watchdogAccess, if_pos hw] at h <;> cases h
      · exact .watchdogRead q rfl hw
      · exact .watchdogWrite q rfl hw
    · simp [targetRule, watchdogAccess, hw] at h
  | unmapped =>
    cases dir <;> cases h <;> exact .unmapped

/-- The SETIN instruction of a group (R172). -/
def setIn : Group → Byte → Instr
  | .joy => .evSetinJoy
  | .btn => .evSetinBtn
  | .dswa => .evSetinDswa
  | .dswb => .evSetinDswb

theorem exec_setIn (g : Group) (b : Byte) (s : State) : exec (setIn g b) s = .next (setInput g b s) := by
  cases g <;> rfl

/-- What an instruction that answers a next state has done. -/
inductive ExecEffect (s : State) : Instr → State → Prop
  | held {i : Instr} {x : Access} (hx : i.access = some x) (hr : resetLine s x.proc = true) :
      ExecEffect s i (notAdmitted x.proc s)
  | served {i : Instr} {x : Access} {g : Target} {t : State} (hx : Reaches s i x g) (h : Served x s g t) :
      ExecEffect s i t
  | tick : ExecEffect s .evTick (tick s)
  | poweron : ExecEffect s .evPoweron (coldInit s)
  | sysreset : ExecEffect s .evSysreset (sysReset s)
  | setin (g : Group) (b : Byte) : ExecEffect s (setIn g b) (setInput g b s)

/-- An access of a held processor is not performed (R43, R106). -/
theorem exec_of_held {s : State} {i : Instr} {x : Access} (hx : i.access = some x) (hr : resetLine s x.proc = true) :
    exec i s = .next (notAdmitted x.proc s) := by
  rw [exec_of_access i s x hx, procStep, if_pos hr]

theorem execEffect_of_event {s t : State} {i : Instr} (ha : i.access = none) (h : exec i s = .next t) :
    ExecEffect s i t := by
  cases i <;> simp only [Instr.access, Instr.tx, reduceCtorEq] at ha
  case evTick => cases h; exact .tick
  case evPoweron => cases h; exact .poweron
  case evSysreset => cases h; exact .sysreset
  case evSetinJoy b => cases h; exact .setin .joy b
  case evSetinBtn b => cases h; exact .setin .btn b
  case evSetinDswa b => cases h; exact .setin .dswa b
  case evSetinDswb b => cases h; exact .setin .dswb b
  case evReserved rest => cases h

theorem execEffect_of_exec {s t : State} {i : Instr} (h : exec i s = .next t) : ExecEffect s i t := by
  cases ha : i.access with
  | some x =>
    by_cases hr : resetLine s x.proc = true
    · rw [exec_of_held ha hr] at h
      cases h
      exact .held ha hr
    · have hx : Reaches s i x (decodeAddr s.cfg x.proc x.dir x.addr) := ⟨ha, by simpa using hr, rfl⟩
      rw [exec_of_reaches hx] at h
      exact .served hx (served_of_targetRule h)
  | none => exact execEffect_of_event ha h

/-- A watchdog that a TICK finds expired is one that the statements count as expiring (R170). -/
theorem watchdogExpires_of_hasExpired {s : State} (h : ∃ q, hasExpired (counted s) q = true) : WatchdogExpires s := by
  obtain ⟨q, hq⟩ := h
  simp only [hasExpired_counted, counts, Bool.and_eq_true, Bool.not_eq_true', decide_eq_true_eq] at hq
  obtain ⟨⟨hhas, hrun⟩, hlimit⟩ := hq
  exact ⟨q, hhas, hrun, hlimit⟩

end Sys2Proof.Proofs
end

section
/-! What may change a line, a latch, the secondary-reset line, a region's byte and an input byte: one cause for each
change (R23-R26, R32, R54). -/

namespace Sys2Proof.Proofs

open Sys2Proof.Machine Sys2Proof.Claims

/-! ### Interrupt lines and latches -/

/-- Replacing entry `p` changes no other entry. -/
theorem perProc_eq_of_set_changed {α : Type} {v : PerProc α} {p q : Proc} {b : α}
    (h : (v.set p b).get q ≠ v.get q) : q = p := by
  by_contra hq
  exact h (perProc_get_set_other v p q b hq)

/-- Every change of a line: a TICK asserts it where its latch is set, or it is cleared by a disable write or a reset. -/
theorem irq_changed {s t : State} {i : Instr} {q : Proc} (h : ExecEffect s i t) (hq : t.irq.get q ≠ s.irq.get q) :
    (i = .evTick ∧ s.ie.get q = true ∧ t.irq.get q = true) ∨
    (t.irq.get q = false ∧ ((∃ x, Reaches s i x (.intCtl q false) ∧ x.dir = .w) ∨ i = .evPoweron ∨
      (i = .evSysreset ∧ q = .p1) ∨ (i = .evTick ∧ WatchdogExpires s))) := by
  have noLine : (⟨false, false, false⟩ : PerProc Bool).get q = false := by cases q <;> rfl
  cases h with
  | held => exact absurd rfl hq
  | @served i x g t hx h =>
    cases h with
    | intCtl p lvl hd =>
      cases lvl
      · obtain rfl : q = p := perProc_eq_of_set_changed hq
        exact .inr ⟨perProc_get_set_same .., .inl ⟨x, hx, hd⟩⟩
      · exact absurd rfl hq
    | _ => exact absurd (by simp) hq
  | tick =>
    obtain ⟨-, ht⟩ | ⟨hexp, ht⟩ := tick_cases s
    · rw [ht, counted_irq_get] at hq ⊢
      cases hie : s.ie.get q
      · simp [hie] at hq
      · exact .inl ⟨rfl, rfl, by simp⟩
    · exact .inr ⟨by simp [ht, noLine], .inr (.inr (.inr ⟨rfl, watchdogExpires_of_hasExpired hexp⟩))⟩
  | poweron => exact .inr ⟨by simp [noLine], .inr (.inl rfl)⟩
  | sysreset =>
    rw [sysReset_irq] at hq ⊢
    obtain rfl : q = .p1 := perProc_eq_of_set_changed hq
    exact .inr ⟨perProc_get_set_same .., .inr (.inr (.inl ⟨rfl, rfl⟩))⟩
  | setin => exact absurd rfl hq

/-- Settles O23: a line that rises has the TICK of `irq_changed` as its cause, a line that falls one of the others. -/
theorem interruptLinesChangeOnlyAsTheRulesSay : Obligations.InterruptLinesChangeOnlyAsTheRulesSay := by
  intro s t i q _ h
  have changed := irq_changed (q := q) (execEffect_of_exec h)
  constructor
  · intro hs ht
    obtain ⟨hi, hie, -⟩ | ⟨hf, -⟩ := changed (by simp [hs, ht])
    · exact ⟨hi, hie⟩
    · simp [ht] at hf
  · intro hs ht
    obtain ⟨-, -, hr⟩ | ⟨-, hcause⟩ := changed (by simp [hs, ht])
    · simp [ht] at hr
    · exact hcause

/-- Settles O24: of all effects only an IntCtl write and the resets write a latch. -/
theorem enableLatchesChangeOnlyAsTheRulesSay : Obligations.EnableLatchesChangeOnlyAsTheRulesSay := by
  intro s t i q _ h hq
  cases execEffect_of_exec h with
  | held => exact absurd rfl hq
  | @served i x g t hx h =>
    cases h with
    | intCtl p lvl hd =>
      obtain rfl : q = p := perProc_eq_of_set_changed hq
      exact .inl ⟨x, lvl, hx, hd⟩
    | _ => exact absurd (by simp) hq
  | tick =>
    obtain ⟨-, ht⟩ | ⟨hexp, -⟩ := tick_cases s
    · exact absurd (by simp [ht]) hq
    · exact .inr (.inr (.inr ⟨rfl, watchdogExpires_of_hasExpired hexp⟩))
  | poweron => exact .inr (.inl rfl)
  | sysreset =>
    rw [sysReset_ie] at hq
    exact .inr (.inr (.inl ⟨rfl, perProc_eq_of_set_changed hq⟩))
  | setin => exact absurd rfl hq

/-! ### The secondary-reset line -/

/-- Settles O25: every reset holds the secondaries or leaves them held, so what releases them is a SubRst write, which
W9 gives to P0 alone. -/
theorem onlyAReleaseOfP0WakesTheSecondaries : Obligations.OnlyAReleaseOfP0WakesTheSecondaries := by
  intro s t i hc h hs ht
  cases execEffect_of_exec h with
  | @served i x g t hx h =>
    cases h with
    | subRst lvl hd =>
      obtain rfl : lvl = true := by simpa using ht
      obtain ⟨-, hp⟩ := targetOk_of_reaches hc hx
      exact ⟨x, hx, hd, hp⟩
    | _ => simp [hs] at ht
  | tick => obtain ⟨-, htick⟩ | ⟨-, htick⟩ := tick_cases s <;> simp [htick, hs] at ht
  | _ => simp [hs] at ht

/-! ### The shared regions -/

/-- Settles O26: a write reaches its own byte alone, and W4 makes its processor an owner. -/
theorem regionBytesChangeOnlyByOwnersOrColdReset : Obligations.RegionBytesChangeOnlyByOwnersOrColdReset := by
  intro s t i r off hinv h hchanged
  have unchanged {u : State} (hmem : u.mem = s.mem) : regionRead u r off = regionRead s r off :=
    regionRead_congr hmem r off
  cases execEffect_of_exec h with
  | @served i x g t hx h =>
    cases h with
    | sharedWrite q c hd =>
      have hbyte : (r, off) = (q, c) := by
        by_contra hne
        exact hchanged (regionRead_regionWrite_other s q r c off x.data hne)
      obtain ⟨rfl, rfl⟩ := Prod.mk.inj hbyte
      obtain ⟨-, howner⟩ := targetOk_of_reaches hinv.config hx
      exact .inl ⟨x, hx, hd, howner, regionRead_regionWrite_same s r off x.data (hinv.regions r).1⟩
    | _ => exact absurd (unchanged (by simp)) hchanged
  | tick =>
    obtain ⟨-, ht⟩ | ⟨hexp, ht⟩ := tick_cases s
    · exact absurd (unchanged (by simp [ht])) hchanged
    · exact .inr ⟨.inr ⟨rfl, watchdogExpires_of_hasExpired hexp⟩, regionRead_empty _ (by simp [ht]) r off⟩
  | poweron => exact .inr ⟨.inl rfl, regionRead_empty _ (coldInit_mem s) r off⟩
  | _ => exact absurd (unchanged (by simp)) hchanged

/-! ### The inputs -/

/-- Settles O46: SETIN is the only effect that writes an input byte. -/
theorem inputsChangeOnlyBySetIn : Obligations.InputsChangeOnlyBySetIn := by
  intro s t i _ h hinp
  cases execEffect_of_exec h with
  | @served i x g t hx h => cases h <;> exact absurd (by simp) hinp
  | tick => obtain ⟨-, ht⟩ | ⟨-, ht⟩ := tick_cases s <;> exact absurd (by simp [ht]) hinp
  | setin g b => exact ⟨b, by cases g <;> simp [setIn]⟩
  | _ => exact absurd (by simp) hinp

/-- Settles O43: each SETIN event is the one of its group. -/
theorem setInChangesOneInputByte : Obligations.SetInChangesOneInputByte :=
  fun s b => ⟨exec_setIn .joy b s, exec_setIn .btn b s, exec_setIn .dswa b s, exec_setIn .dswb b s⟩

end Sys2Proof.Proofs
end

section
/-! The effects in full of a held access, a ROM read, the SubRst and IoRst writes, and POWERON (R43, R122, R152, R154,
R174). -/

namespace Sys2Proof.Proofs

open Sys2Proof.Machine Sys2Proof.Claims

/-! ### Held secondaries -/

theorem resetLine_secondary {p : Proc} (hp : p ≠ .p0) (s : State) : resetLine s p = s.subrst := by
  cases p
  · exact absurd rfl hp
  · rfl
  · rfl

/-- Settles O30: `subrst` is the reset line of both secondaries. -/
theorem heldSecondariesPerformNothing : Obligations.HeldSecondariesPerformNothing :=
  fun s _ _ hx hp hs => exec_of_held hx ((resetLine_secondary hp s).trans hs)

/-! ### ROM reads -/

/-- A ROM window is read-only (W6) and its processor's own (W5), and its offsets lie in the image (W3). -/
theorem exec_rom {s : State} {i : Instr} {p b : Proc} {dir : Dir} {a : Addr} {d : Byte} {off : Nat}
    (hc : accepted s.cfg = true) (h : Reaches s i ⟨p, dir, a, d⟩ (.rom b off)) :
    exec i s = .next { s with reply := .data p (romRead s.cfg b off) } := by
  obtain ⟨-, rfl, ho⟩ := targetOk_of_reaches hc h
  rw [exec_of_reaches h]
  exact if_pos ho

/-- The bits a row leaves open, read off an address of the row. -/
theorem toNat_append_mod {n k : Nat} (fixed : BitVec n) (low : BitVec k) :
    (fixed ++ low).toNat % 2 ^ k = low.toNat := by
  rw [toNat_append_low, Nat.mul_comm, Nat.mul_add_mod, Nat.mod_eq_of_lt low.isLt]

/-! The three ROM rows of the reference map (W0.12, W1.5, W2.4). -/

theorem refTarget_p0RdRom (low : BitVec 15) : decodeWindows refDecodeP0 .r (0x1#1 ++ low) = .rom .p0 low.toNat := by
  have hrow : (0x1#1 ++ low).toNat / 32768 = 1 := toNat_append_div _ low
  have hoff : (0x1#1 ++ low).toNat % 32768 = low.toNat := toNat_append_mod _ low
  rw [refTarget_p0_r, hoff]
  repeat rw [if_neg (by omega)]
  exact if_pos hrow

theorem refTarget_p1RdRom (low : BitVec 13) : decodeWindows refDecodeP1 .r (0x7#3 ++ low) = .rom .p1 low.toNat := by
  have hrow : (0x7#3 ++ low).toNat / 8192 = 7 := toNat_append_div _ low
  have hoff : (0x7#3 ++ low).toNat % 8192 = low.toNat := toNat_append_mod _ low
  rw [refTarget_p1_r, hoff]
  repeat rw [if_neg (by omega)]
  exact if_pos hrow

theorem refTarget_p2RdRom (low : BitVec 13) : decodeWindows refDecodeP2 .r (0x7#3 ++ low) = .rom .p2 low.toNat := by
  have hrow : (0x7#3 ++ low).toNat / 8192 = 7 := toNat_append_div _ low
  have hoff : (0x7#3 ++ low).toNat % 8192 = low.toNat := toNat_append_mod _ low
  rw [refTarget_p2_r, hoff]
  repeat rw [if_neg (by omega)]
  exact if_pos hrow

/-- Settles O33: the rule of a ROM target, and the three rows that reach one. -/
theorem romReadsReturnTheImageByte : Obligations.RomReadsReturnTheImageByte := by
  refine ⟨fun s i x b off hc h => exec_rom hc h, fun s ⟨hmap, hc⟩ =>
    ⟨fun low => ?_, fun hrun => ⟨fun low => ?_, fun low => ?_⟩⟩⟩
  · exact exec_rom hc (reaches_ref hmap rfl rfl (refTarget_p0RdRom low))
  · exact exec_rom hc (reaches_ref hmap rfl hrun (refTarget_p1RdRom low))
  · exact exec_rom hc (reaches_ref hmap rfl hrun (refTarget_p2RdRom low))

/-! ### The reset-line windows -/

/-- A SubRst hold zeroes the counters that the secondaries have (R152). -/
theorem subRstWrite_eq (lvl : Bool) (s : State) : subRstWrite lvl s = subReset s lvl := by
  cases lvl
  · cases h1 : s.cfg.wdHas.p1 <;> cases h2 : s.cfg.wdHas.p2 <;>
      simp [subRstWrite, subReset, zeroWatchdog, PerProc.get, PerProc.set, h1, h2]
  · rfl

theorem exec_subRst {s : State} {i : Instr} {p : Proc} {a : Addr} {d : Byte} {lvl : Bool}
    (h : Reaches s i ⟨p, .w, a, d⟩ (.subRst lvl)) : exec i s = .next (subReset s lvl) := by
  rw [exec_of_reaches h, ← subRstWrite_eq]
  rfl

theorem exec_ioRst {s : State} {i : Instr} {p : Proc} {a : Addr} {d : Byte} {lvl : Bool}
    (h : Reaches s i ⟨p, .w, a, d⟩ (.ioRst lvl)) : exec i s = .next { s with iorst := !lvl } :=
  exec_of_reaches h

theorem subReset_subrst (s : State) (lvl : Bool) : (subReset s lvl).subrst = !lvl := by
  cases lvl <;> rfl

/-- The key bit of a row that fixes A[15:12] is one of the bits the row leaves open (R79). -/
theorem keyLevel_append_low (fixed : BitVec 4) (low : BitVec 12) (key : Fin 16) (hk : key.val < 12) (act : Bool) :
    keyLevel key act (fixed ++ low) = (low.getLsbD key.val == act) := by
  rw [keyLevel, BitVec.getLsbD_append, if_pos hk]

/-! The two rows of the reference map (W0.10, W0.11), whose key bit is A11. -/

theorem refTarget_p0WrSubrst (low : BitVec 12) :
    decodeWindows refDecodeP0 .w (0x8#4 ++ low) = .subRst (!low.getLsbD 11) := by
  have hrow : (0x8#4 ++ low).toNat / 4096 = 8 := toNat_append_div _ low
  rw [refTarget_p0_w, keyLevel_append_low _ _ _ (by decide), beq_false]
  repeat rw [if_neg (by omega)]
  exact if_pos hrow

theorem refTarget_p0WrIorst (low : BitVec 12) :
    decodeWindows refDecodeP0 .w (0x9#4 ++ low) = .ioRst (!low.getLsbD 11) := by
  have hrow : (0x9#4 ++ low).toNat / 4096 = 9 := toNat_append_div _ low
  rw [refTarget_p0_w, keyLevel_append_low _ _ _ (by decide), beq_false]
  repeat rw [if_neg (by omega)]
  exact if_pos hrow

/-- Settles O37: P1, P2 and the sound subsystem all follow `subrst`. -/
theorem subRstHoldsBothSecondaries : Obligations.SubRstHoldsBothSecondaries := by
  refine ⟨fun s i x lvl h hd => ?_, fun s hmap low d => ?_⟩
  · obtain ⟨p, dir, a, d⟩ := x
    obtain rfl : dir = .w := hd
    have hsub := subReset_subrst s lvl
    exact ⟨exec_subRst h, hsub, hsub, by rw [soundEnable, hsub, Bool.not_not]⟩
  · exact exec_subRst (reaches_ref hmap rfl rfl (refTarget_p0WrSubrst low))

/-- Settles O38: the chips of slots 0 and 1 follow `iorst`, slot 2 is never held. -/
theorem ioRstHoldsBothChips : Obligations.IoRstHoldsBothChips := by
  refine ⟨fun s i x lvl h hd => ?_, fun s hmap low d => ?_⟩
  · obtain ⟨p, dir, a, d⟩ := x
    obtain rfl : dir = .w := hd
    exact ⟨exec_ioRst h, rfl, rfl, rfl⟩
  · have hwrite : exec (.p0WrIorst low d) s = .next { s with iorst := !!low.getLsbD 11 } :=
      exec_ioRst (reaches_ref hmap rfl rfl (refTarget_p0WrIorst low))
    rwa [Bool.not_not] at hwrite

/-! ### ColdInit -/

/-- Zeroing the counters, one by one, as the statements write it (R210, R212). -/
theorem zeroWatchdogs_eq (s : State) : zeroWatchdogs s = { s with wd := zeroedWd s } := by
  cases h0 : s.cfg.wdHas.p0 <;> cases h1 : s.cfg.wdHas.p1 <;> cases h2 : s.cfg.wdHas.p2 <;>
    simp [zeroWatchdogs, zeroWatchdog, zeroedWd, PerProc.get, PerProc.set, h0, h1, h2]

theorem resetPulses_eq (s : State) : resetPulses s = { s with out := s.out ++ resetEvents } := by
  simp [resetPulses, emit, resetEvents]

theorem coldInit_eq (s : State) : coldInit s = coldReset s [] := by
  rw [coldInit, zeroWatchdogs_eq, resetPulses_eq, coldReset, List.append_nil]
  rfl

/-- Settles O44: POWERON is ColdInit. -/
theorem powerOnReinitialisesEverything : Obligations.PowerOnReinitialisesEverything :=
  fun s => congrArg _ (coldInit_eq s)

end Sys2Proof.Proofs
end

section
/-! The step, and what a run of TICKs from zero counters does: a quiet run below WD_LIMIT, then one cold-style reset
(R170, R222). -/

namespace Sys2Proof.Proofs

open Sys2Proof.Machine Sys2Proof.Claims

/-! ### One step -/

theorem step_of_pending {s : State} {w : TxWord} {rest : List TxWord} (hc : accepted s.cfg = true)
    (hp : s.pending = w :: rest) : step s = exec (decode w) (taken s rest) := by
  rw [step, if_pos hc, hp]

theorem decodeTableWord_of_lt {w : Nat} (n : Nat) (hw : w < 2 ^ 27) :
    decodeTableWord n w = some (decode (BitVec.ofNat 27 w)) := by
  rw [decodeTableWord, decodeNat, if_pos hw]

/-- Settles O13: `withFetchWord` puts its word in front of the schedule, so the next step takes that word off again. -/
theorem stepRunsTheDecodedInstruction : Obligations.StepRunsTheDecodedInstruction := by
  refine ⟨fun s w rest i hc hp hi => ?_, fun s n w hc hw => ⟨_, decodeTableWord_of_lt n hw, ?_⟩⟩
  · rw [step_of_pending hc hp, hi]
    rfl
  · exact step_of_pending (s := s.withFetchWord n w) hc rfl

/-! ### Runs -/

/-- One more step at the end of a run. -/
theorem run_succ {M : Host.Core} {n : Nat} {s t u : M.State} (hrun : M.run n s = .next t) (hstep : M.step t = .next u) :
    M.run (n + 1) s = .next u := by
  induction n generalizing s with
  | zero =>
    cases hrun
    simp [Host.Core.run, hstep]
  | succ n ih =>
    rw [Host.Core.run] at hrun ⊢
    cases hs : M.step s with
    | next s' =>
      rw [hs] at hrun
      exact ih hrun
    | fault r => simp [hs] at hrun
    | refused r => simp [hs] at hrun

theorem step_tick {s : State} {rest : List TxWord} (hc : accepted s.cfg = true) (hp : s.pending = tickWord :: rest) :
    step s = .next (tick (taken s rest)) := by
  have hdecode : decode tickWord = .evTick := by decide
  rw [step_of_pending hc hp, hdecode]
  rfl

/-! ### A quiet run of TICKs -/

/-- `t` is where `n` TICKs from `s`, with zero counters, have come to without an expiry; `rest` is left to take. -/
structure QuietTicks (s : State) (n : Nat) (rest : List TxWord) (t : State) : Prop where
  cfg : t.cfg = s.cfg
  pending : t.pending = rest
  wd : ∀ q, t.wd.get q = if counts s q then n else 0
  mem : t.mem = s.mem
  ie : t.ie = s.ie
  subrst : t.subrst = s.subrst
  iorst : t.iorst = s.iorst
  watchdogResets : ∀ p, t.out.count (.watchdogReset p) = s.out.count (.watchdogReset p)
  pulses : ∀ p, t.out.count (.resetPulse p) = s.out.count (.resetPulse p)

/-- Interrupt pulses of the chips are all that the counting part of a TICK appends to `out`. -/
theorem count_counted_out {s : State} {e : OutEvent} (he : ∀ slot q, e ≠ .chipIrqPulse slot q) :
    (counted s).out.count e = s.out.count e := by
  rw [counted_out]
  split
  · rfl
  · simp [List.count_append, (he _ _).symm]

theorem counts_iff (s : State) (q : Proc) :
    counts s q = true ↔ s.cfg.wdHas.get q = true ∧ resetLine s q = false := by
  simp [counts]

section
variable {s t : State} {n : Nat} {rest : List TxWord}

theorem QuietTicks.counts_taken (h : QuietTicks s n (tickWord :: rest) t) (q : Proc) :
    counts (taken t rest) q = counts s q :=
  counts_congr h.cfg h.subrst q

theorem QuietTicks.wd_counted (h : QuietTicks s n (tickWord :: rest) t) (q : Proc) :
    (counted (taken t rest)).wd.get q = if counts s q then n + 1 else 0 := by
  rw [counted_wd_get, h.counts_taken, taken_wd, h.wd]
  split <;> rfl

/-- Which watchdogs the TICK after a quiet run finds expired: all that count, once the run is long enough. -/
theorem QuietTicks.hasExpired_counted (h : QuietTicks s n (tickWord :: rest) t) (q : Proc) :
    hasExpired (counted (taken t rest)) q = true ↔ counts s q = true ∧ s.cfg.wdLimit ≤ n + 1 := by
  rw [Machine.hasExpired_counted, h.counts_taken, taken_cfg, taken_wd, h.cfg, h.wd]
  cases counts s q <;> simp

/-- A quiet run stays quiet for one more TICK below the limit. -/
theorem QuietTicks.succ (h : QuietTicks s n (tickWord :: rest) t) (hn : n + 1 < s.cfg.wdLimit) :
    QuietTicks s (n + 1) rest (tick (taken t rest)) := by
  have hquiet : tick (taken t rest) = counted (taken t rest) := by
    obtain ⟨-, ht⟩ | ⟨⟨q, hq⟩, -⟩ := tick_cases (taken t rest)
    · exact ht
    · obtain ⟨-, hlimit⟩ := (h.hasExpired_counted q).mp hq
      omega
  rw [hquiet]
  exact {
    cfg := by simp [h.cfg]
    pending := by simp
    wd := h.wd_counted
    mem := by simp [h.mem]
    ie := by simp [h.ie]
    subrst := by simp [h.subrst]
    iorst := by simp [h.iorst]
    watchdogResets := fun p => by rw [count_counted_out (by simp), taken_out, h.watchdogResets]
    pulses := fun p => by rw [count_counted_out (by simp), taken_out, h.pulses] }

end

/-- Fewer than WD_LIMIT TICKs from zero counters are a quiet run. -/
theorem run_quietTicks {s : State} {n : Nat} (rest : List TxWord) (hc : accepted s.cfg = true)
    (hwd : s.wd = ⟨0, 0, 0⟩) (hp : s.pending = List.replicate n tickWord ++ rest) (hn : n < s.cfg.wdLimit) :
    ∃ t : State, Host.Core.run Sys2Proof.core n s = .next t ∧ QuietTicks s n rest t := by
  induction n generalizing rest with
  | zero =>
    have hzero (q : Proc) : s.wd.get q = 0 := by rw [hwd]; cases q <;> rfl
    exact ⟨s, rfl, rfl, by simpa using hp, fun q => by simp [hzero], rfl, rfl, rfl, rfl, fun _ => rfl, fun _ => rfl⟩
  | succ n ih =>
    rw [List.replicate_succ', List.append_assoc, List.singleton_append] at hp
    obtain ⟨t, hrun, hquiet⟩ := ih (tickWord :: rest) hp (by omega)
    have hstep := step_tick (hquiet.cfg ▸ hc) hquiet.pending
    exact ⟨_, run_succ (M := Sys2Proof.core) hrun hstep, hquiet.succ hn⟩

/-! ### The TICK that reaches the limit -/

/-- What a TICK leaves when it finds an expired watchdog: the expiries reported, and one ColdInit (R170). -/
def expiredTick (s : State) : State :=
  coldInit { counted s with out := (counted s).out ++ expiryEvents (counted s) }

theorem tick_of_expired {s : State} {q : Proc} (hq : hasExpired (counted s) q = true) : tick s = expiredTick s := by
  obtain ⟨hnone, -⟩ | ⟨-, ht⟩ := tick_cases s
  · simp [hnone q] at hq
  · exact ht

theorem expiredTick_out (s : State) :
    (expiredTick s).out = (counted s).out ++ expiryEvents (counted s) ++ resetEvents :=
  coldInit_out _

theorem expiredTick_mem (s : State) : (expiredTick s).mem = ⟨[], [], [], []⟩ :=
  coldInit_mem _

theorem count_expiryEvents_watchdogReset (s : State) (p : Proc) :
    (expiryEvents s).count (.watchdogReset p) = if hasExpired s p = true then 1 else 0 := by
  cases h0 : hasExpired s .p0 <;> cases h1 : hasExpired s .p1 <;> cases h2 : hasExpired s .p2 <;>
    cases p <;> simp [expiryEvents, h0, h1, h2]

theorem count_expiryEvents_resetPulse (s : State) (p : Proc) : (expiryEvents s).count (.resetPulse p) = 0 := by
  unfold expiryEvents
  split_ifs <;> simp

theorem count_resetEvents_watchdogReset (p : Proc) : resetEvents.count (.watchdogReset p) = 0 := by
  cases p <;> decide

theorem count_resetEvents_resetPulse (p : Proc) : resetEvents.count (.resetPulse p) = 1 := by
  cases p <;> decide

theorem perProc_zero_of_get {v : PerProc Nat} (h : ∀ q, v.get q = 0) : v = ⟨0, 0, 0⟩ := by
  obtain ⟨a, b, c⟩ := v
  obtain rfl : a = 0 := h .p0
  obtain rfl : b = 0 := h .p1
  obtain rfl : c = 0 := h .p2
  rfl

section
variable {s t : State} {n : Nat} {rest : List TxWord}

/-- ColdInit zeroes every counter that exists; where there is none the entry was 0 all along. -/
theorem QuietTicks.wd_expiredTick (h : QuietTicks s n (tickWord :: rest) t) :
    (expiredTick (taken t rest)).wd = ⟨0, 0, 0⟩ := by
  refine perProc_zero_of_get fun q => ?_
  rw [expiredTick, coldInit_wd_get]
  split
  · rfl
  · next hhas =>
    rw [counted_cfg, taken_cfg, h.cfg] at hhas
    have hidle : counts s q = false := by simp [counts, hhas]
    rw [h.wd_counted, hidle]
    rfl

theorem QuietTicks.watchdogResets_expiredTick (h : QuietTicks s n (tickWord :: rest) t) (hn : s.cfg.wdLimit ≤ n + 1)
    (p : Proc) : (expiredTick (taken t rest)).out.count (.watchdogReset p) =
      s.out.count (.watchdogReset p) + if s.cfg.wdHas.get p = true ∧ resetLine s p = false then 1 else 0 := by
  rw [expiredTick_out, List.count_append, List.count_append, count_counted_out (by simp), taken_out, h.watchdogResets,
    count_expiryEvents_watchdogReset, count_resetEvents_watchdogReset]
  simp only [h.hasExpired_counted, hn, and_true, counts_iff, Nat.add_zero]

theorem QuietTicks.pulses_expiredTick (h : QuietTicks s n (tickWord :: rest) t) (p : Proc) :
    (expiredTick (taken t rest)).out.count (.resetPulse p) = s.out.count (.resetPulse p) + 1 := by
  rw [expiredTick_out, List.count_append, List.count_append, count_counted_out (by simp), taken_out, h.pulses,
    count_expiryEvents_resetPulse, count_resetEvents_resetPulse, Nat.add_zero]

end

/-- Settles O48: below the limit the run is quiet; the TICK after a quiet run of WD_LIMIT - 1 finds every counting
watchdog expired and ends in one ColdInit. -/
theorem watchdogExpiresAtTheLimit : Obligations.WatchdogExpiresAtTheLimit := by
  intro s n rest hc hwd hp
  constructor
  · intro hn
    obtain ⟨t, hrun, h⟩ := run_quietTicks rest hc hwd hp hn
    refine ⟨t, hrun, h.pending, fun q => ?_, h.mem, h.ie, h.subrst, h.iorst, fun p =>
      ⟨h.watchdogResets p, h.pulses p⟩⟩
    simp only [h.wd, counts_iff]
  · rintro hn ⟨q, hq⟩
    have hpos : 1 ≤ s.cfg.wdLimit := wdLimit_pos s.cfg hc
    obtain ⟨m, rfl⟩ : ∃ m, n = m + 1 := Nat.exists_eq_succ_of_ne_zero (by omega)
    rw [List.replicate_succ', List.append_assoc, List.singleton_append] at hp
    obtain ⟨t, hrun, h⟩ := run_quietTicks (tickWord :: rest) hc hwd hp (by omega)
    have hexpired : hasExpired (counted (taken t rest)) q = true :=
      (h.hasExpired_counted q).mpr ⟨(counts_iff s q).mpr hq, hn.ge⟩
    have hstep : step t = .next (expiredTick (taken t rest)) :=
      (step_tick (h.cfg ▸ hc) h.pending).trans (congrArg _ (tick_of_expired hexpired))
    exact ⟨_, run_succ (M := Sys2Proof.core) hrun hstep, by simp [expiredTick], h.wd_expiredTick,
      by simp [expiredTick], by simp [expiredTick], by simp [expiredTick], by simp [expiredTick, h.cfg],
      fun r off => regionRead_empty _ (expiredTick_mem _) r off,
      fun p => ⟨h.watchdogResets_expiredTick hn.ge p, h.pulses_expiredTick p⟩⟩

end Sys2Proof.Proofs
end

section
/-! Shared reads and writes (R52, R53, R120, R121). -/

namespace Sys2Proof.Proofs

open Sys2Proof.Machine Sys2Proof.Claims

/-! ### The rules of a reached shared target -/

/-- Every offset a shared window decodes to lies in its region (W3), so the read is served. -/
theorem exec_shared_read {s : State} {i : Instr} {p : Proc} {a : Addr} {d : Byte} {r : Region} {off : Nat}
    (hc : accepted s.cfg = true) (h : Reaches s i ⟨p, .r, a, d⟩ (.shared r off)) :
    exec i s = .next { s with reply := .data p (regionRead s r off) } := by
  obtain ⟨ho, -⟩ := targetOk_of_reaches hc h
  rw [exec_of_reaches h]
  exact if_pos ho

theorem exec_shared_write {s : State} {i : Instr} {p : Proc} {a : Addr} {d : Byte} {r : Region} {off : Nat}
    (hc : accepted s.cfg = true) (h : Reaches s i ⟨p, .w, a, d⟩ (.shared r off)) :
    exec i s = .next (regionWrite s r off d) := by
  obtain ⟨ho, -⟩ := targetOk_of_reaches hc h
  rw [exec_of_reaches h]
  exact if_pos ho

/-- On a canonical region `RegionWrite` stores its byte and nothing else (R52). -/
theorem storesByte_regionWrite {s : State} {r : Region} (off : Nat) (d : Byte)
    (hw : Memory.wf (s.mem.get r) = true) : StoresByte s (regionWrite s r off d) r off d := by
  refine ⟨rfl, fun q c => ?_⟩
  split
  · next h =>
    obtain ⟨rfl, rfl⟩ := h
    exact regionRead_regionWrite_same s q c d hw
  · next h => exact regionRead_regionWrite_other s r q off c d fun he => h (Prod.mk.inj he)

theorem exec_shared_write_storesByte {s : State} {i : Instr} {p : Proc} {a : Addr} {d : Byte} {r : Region} {off : Nat}
    (hinv : Inv s) (h : Reaches s i ⟨p, .w, a, d⟩ (.shared r off)) :
    ∃ t, exec i s = .next t ∧ StoresByte s t r off d :=
  ⟨_, exec_shared_write hinv.config h, storesByte_regionWrite off d (hinv.regions r).1⟩

/-- Settles O27: the write leaves the configuration alone, so the next read is served, and it finds the byte stored. -/
theorem writeIsVisibleToTheNextRead : Obligations.WriteIsVisibleToTheNextRead := by
  rintro s t i j ⟨p, dir, a, d⟩ ⟨q, dir', b, e⟩ r off hinv hx rfl hexec hy rfl
  rw [exec_shared_write hinv.config hx] at hexec
  injection hexec with ht
  subst ht
  have hread := exec_shared_read (s := regionWrite s r off d) hinv.config hy
  rwa [regionRead_regionWrite_same s r off d (hinv.regions r).1] at hread

/-! ### The shared rows of the reference map (W0.1 to W0.4, W1.1 to W1.3, W2.1) -/

/-- The address bits A[15:11] at which P0 sees a region under REFCFG, and P1 sees those it shares (R84). -/
def regionPage : Region → BitVec 5
  | .vram => 0x00#5
  | .wramA => 0x01#5
  | .wramB => 0x02#5
  | .snd => 0x08#5

/-- P0 and P1 see the three regions they share at the same addresses: both tables begin with the same three tests. -/
theorem refTarget_regionPage {p : Proc} {r : Region} (hp : p ≠ .p2) (hr : r ≠ .snd) (dir : Dir) (low : BitVec 11) :
    decodeWindows (refDecode.get p) dir (regionPage r ++ low) = .shared r low.toNat := by
  have hrow : (regionPage r ++ low).toNat / 2048 = (regionPage r).toNat := toNat_append_div _ low
  have hoff : (regionPage r ++ low).toNat % 2048 = low.toNat := toNat_append_mod _ low
  have tests (rest : Target) :
      (if (regionPage r).toNat = 0 then .shared .vram low.toNat
      else if (regionPage r).toNat = 1 then .shared .wramA low.toNat
      else if (regionPage r).toNat = 2 then .shared .wramB low.toNat
      else rest) = Target.shared r low.toNat := by
    cases r
    · rfl
    · rfl
    · rfl
    · exact absurd rfl hr
  cases p
  · cases dir
    · exact (refTarget_p0_r _).trans (by rw [hrow, hoff]; exact tests _)
    · exact (refTarget_p0_w _).trans (by rw [hrow, hoff]; exact tests _)
  · cases dir
    · exact (refTarget_p1_r _).trans (by rw [hrow, hoff]; exact tests _)
    · exact (refTarget_p1_w _).trans (by rw [hrow, hoff]; exact tests _)
  · exact absurd rfl hp

/-- P0's SND window is twice the region: A10 is in neither its mask nor its offset (R85). -/
theorem refTarget_p0Snd (dir : Dir) (low : BitVec 11) :
    decodeWindows refDecodeP0 dir (0x08#5 ++ low) = .shared .snd (low.extractLsb' 0 10).toNat := by
  have hrow : (0x08#5 ++ low).toNat / 2048 = 8 := toNat_append_div _ low
  have hlow : (0x08#5 ++ low).toNat % 2048 = low.toNat := toNat_append_mod _ low
  have hoff : (0x08#5 ++ low).toNat % 1024 = (low.extractLsb' 0 10).toNat := by
    rw [BitVec.extractLsb'_toNat, Nat.shiftRight_zero]
    omega
  cases dir
  · rw [refTarget_p0_r, hrow, hoff]
    rfl
  · rw [refTarget_p0_w, hrow, hoff]
    rfl

theorem refTarget_p2Snd (dir : Dir) (low : BitVec 10) :
    decodeWindows refDecodeP2 dir (0x00#6 ++ low) = .shared .snd low.toNat := by
  have hrow : (0x00#6 ++ low).toNat / 1024 = 0 := toNat_append_div _ low
  have hoff : (0x00#6 ++ low).toNat % 1024 = low.toNat := toNat_append_mod _ low
  cases dir
  · rw [refTarget_p2_r, if_pos hrow, hoff]
  · rw [refTarget_p2_w, if_pos hrow, hoff]

/-- On the reference map a row of P0 or P1 at a page of their shared regions reaches that region. -/
theorem reaches_regionPage {s : State} {i : Instr} {p : Proc} {dir : Dir} {low : BitVec 11} {d : Byte} (r : Region)
    (hmap : s.cfg.decode = refDecode) (hx : i.access = some ⟨p, dir, regionPage r ++ low, d⟩)
    (hrun : resetLine s p = false) (hp : p ≠ .p2 := by decide) (hr : r ≠ .snd := by decide) :
    Reaches s i ⟨p, dir, regionPage r ++ low, d⟩ (.shared r low.toNat) :=
  reaches_ref hmap hx hrun (refTarget_regionPage hp hr dir low)

/-- Settles O31: the rule of a shared target, and the eight rows that reach one. -/
theorem sharedReadsReturnTheByte : Obligations.SharedReadsReturnTheByte := by
  refine ⟨?_, fun s ⟨hmap, hc⟩ => ⟨fun low => ?_, fun low => ?_, fun low => ?_, fun low => ?_, fun hrun =>
    ⟨fun low => ?_, fun low => ?_, fun low => ?_, fun low => ?_⟩⟩⟩
  · rintro s i ⟨p, dir, a, d⟩ r off hc h rfl
    exact exec_shared_read hc h
  · exact exec_shared_read hc (reaches_regionPage .vram hmap rfl rfl)
  · exact exec_shared_read hc (reaches_regionPage .wramA hmap rfl rfl)
  · exact exec_shared_read hc (reaches_regionPage .wramB hmap rfl rfl)
  · exact exec_shared_read hc (reaches_ref hmap rfl rfl (refTarget_p0Snd .r low))
  · exact exec_shared_read hc (reaches_regionPage .vram hmap rfl hrun)
  · exact exec_shared_read hc (reaches_regionPage .wramA hmap rfl hrun)
  · exact exec_shared_read hc (reaches_regionPage .wramB hmap rfl hrun)
  · exact exec_shared_read hc (reaches_ref hmap rfl hrun (refTarget_p2Snd .r low))

/-- Settles O32: the rule of a shared target, and the eight rows that reach one. -/
theorem sharedWritesStoreTheByte : Obligations.SharedWritesStoreTheByte := by
  refine ⟨?_, fun s hinv hmap => ⟨fun low d => ?_, fun low d => ?_, fun low d => ?_, fun low d => ?_, fun hrun =>
    ⟨fun low d => ?_, fun low d => ?_, fun low d => ?_, fun low d => ?_⟩⟩⟩
  · rintro s i ⟨p, dir, a, d⟩ r off hinv h rfl
    exact exec_shared_write_storesByte hinv h
  · exact exec_shared_write_storesByte hinv (reaches_regionPage .vram hmap rfl rfl)
  · exact exec_shared_write_storesByte hinv (reaches_regionPage .wramA hmap rfl rfl)
  · exact exec_shared_write_storesByte hinv (reaches_regionPage .wramB hmap rfl rfl)
  · exact exec_shared_write_storesByte hinv (reaches_ref hmap rfl rfl (refTarget_p0Snd .w low))
  · exact exec_shared_write_storesByte hinv (reaches_regionPage .vram hmap rfl hrun)
  · exact exec_shared_write_storesByte hinv (reaches_regionPage .wramA hmap rfl hrun)
  · exact exec_shared_write_storesByte hinv (reaches_regionPage .wramB hmap rfl hrun)
  · exact exec_shared_write_storesByte hinv (reaches_ref hmap rfl hrun (refTarget_p2Snd .w low))

end Sys2Proof.Proofs
end

section
/-! Isolation of a region from the processors that do not own it (R56): a transaction that does not reach the region runs
the same whatever the region holds, and leaves it alone. -/

namespace Sys2Proof.Proofs

open Sys2Proof.Machine Sys2Proof.Claims

/-! ### A state with other contents of one region -/

theorem perRegion_set_comm {α : Type} (v : PerRegion α) {q r : Region} (a b : α) :
    q ≠ r → (v.set r a).set q b = (v.set q b).set r a := by
  cases q <;> cases r <;> simp [PerRegion.set]

/-- `s` with the contents of region `r` replaced by `m`. -/
def withContents (r : Region) (m : Memory) (s : State) : State := { s with mem := s.mem.set r m }

theorem regionRead_withContents_other {q r : Region} (h : q ≠ r) (m : Memory) (off : Nat) (s : State) :
    regionRead (withContents r m s) q off = regionRead s q off :=
  congrArg (Memory.read · off) (perRegion_get_set_other s.mem r q m h)

theorem regionWrite_withContents_other {q r : Region} (h : q ≠ r) (m : Memory) (off : Nat) (v : Byte) (s : State) :
    regionWrite (withContents r m s) q off v = withContents r m (regionWrite s q off v) := by
  simp only [regionWrite, withContents, perRegion_get_set_other _ _ _ _ h, perRegion_set_comm _ _ _ h]

theorem chipReset_withContents (r : Region) (m : Memory) (slot : Slot) (s : State) :
    chipReset (withContents r m s) slot = chipReset s slot := by
  cases slot <;> rfl

/-- An I/O write is taken by a running PlayerCoin chip and swallowed by every other (R138-R142). -/
theorem ioWrite_eq (slot : Slot) (idx : Nat) (d : Byte) (s : State) :
    ioWrite slot idx d s =
      if slot ≠ .s2 ∧ chipReset s slot = false ∧ s.cfg.kinds.get slot = .playerCoin then
        if idx = 0 then coinPort0 d s else coinPort1 d s
      else s := by
  obtain ⟨hno, hw⟩ | ⟨hyes, hw⟩ := ioWrite_cases slot idx d s
  · rw [hw, if_neg]
    rintro ⟨h2, hr, hk⟩
    simp [h2, hr, hk] at hno
  · rw [hw, if_pos hyes]

theorem ioWrite_withContents (r : Region) (m : Memory) (slot : Slot) (idx : Nat) (d : Byte) (s : State) :
    ioWrite slot idx d (withContents r m s) = withContents r m (ioWrite slot idx d s) := by
  rw [ioWrite_eq, ioWrite_eq, chipReset_withContents, apply_ite (withContents r m), apply_ite (withContents r m)]
  rfl

theorem ioReadValue_withContents (r : Region) (m : Memory) (slot : Slot) (idx : Nat) (s : State) :
    ioReadValue (withContents r m s) slot idx = ioReadValue s slot idx := by
  rw [ioReadValue, chipReset_withContents]
  rfl

theorem subRstWrite_withContents (r : Region) (m : Memory) (lvl : Bool) (s : State) :
    subRstWrite lvl (withContents r m s) = withContents r m (subRstWrite lvl s) := by
  cases lvl <;> rfl

/-! ### A transaction that does not reach the region -/

/-- Of the rules of R106 only those of a target in region `r` read or write that region. -/
theorem targetRule_withContents (p : Proc) (dir : Dir) (a : Addr) (d : Byte) {g : Target} {r : Region}
    (hg : ∀ off, g ≠ .shared r off) (m : Memory) (s : State) :
    targetRule p dir a d g (withContents r m s) = mapNext (withContents r m) (targetRule p dir a d g s) := by
  cases g with
  | shared q off =>
    have hq : q ≠ r := fun h => hg off (h ▸ rfl)
    cases dir
    · simp only [targetRule, sharedRead, regionRead_withContents_other hq, apply_ite (mapNext _)]
      rfl
    · simp only [targetRule, sharedWrite, regionWrite_withContents_other hq, apply_ite (mapNext _)]
      rfl
  | rom b off =>
    cases dir
    · simp only [targetRule, romAccess, apply_ite (mapNext _)]
      rfl
    · rfl
  | io slot idx =>
    cases dir
    · simp only [targetRule, ioRead, ioReadValue_withContents]
      rfl
    · simp only [targetRule, ioWrite_withContents]
      rfl
  | subRst lvl =>
    cases dir
    · rfl
    · simp only [targetRule, subRstWrite_withContents]
      rfl
  | watchdog q =>
    simp only [targetRule, watchdogAccess, apply_ite (mapNext _)]
    cases dir <;> rfl
  | _ => cases dir <;> rfl

theorem exec_withContents {s : State} {i : Instr} {x : Access} {r : Region} (hx : i.access = some x)
    (hg : ∀ off, ¬ Reaches s i x (.shared r off)) (m : Memory) :
    exec i (withContents r m s) = mapNext (withContents r m) (exec i s) := by
  rw [exec_of_access i _ x hx, exec_of_access i s x hx]
  have hline : resetLine (withContents r m s) x.proc = resetLine s x.proc := by cases x.proc <;> rfl
  rw [procStep, procStep, hline]
  by_cases hr : resetLine s x.proc = true
  · rw [if_pos hr, if_pos hr]
    rfl
  · rw [if_neg hr, if_neg hr]
    exact targetRule_withContents _ _ _ _ (fun off h => hg off ⟨hx, by simpa using hr, h⟩) m s

theorem exec_keeps_unreached_region {s t : State} {i : Instr} {x : Access} {r : Region} (hx : i.access = some x)
    (hg : ∀ off, ¬ Reaches s i x (.shared r off)) (h : exec i s = .next t) : t.mem.get r = s.mem.get r := by
  cases execEffect_of_exec h with
  | held => rfl
  | @served i y g t hy h =>
    obtain rfl : x = y := Option.some.inj (hx.symm.trans hy.1)
    cases h with
    | sharedWrite q off =>
      refine perRegion_get_set_other _ _ _ _ ?_
      rintro rfl
      exact hg off hy
    | _ => simp
  | setin g => cases g <;> cases hx
  | _ => cases hx

/-- Settles O28: by W4 a processor's shared targets lie in the regions it owns, so its transaction does not reach `r`. -/
theorem nonOwnersAreIsolatedFromARegion : Obligations.NonOwnersAreIsolatedFromARegion := by
  intro s t i x r m hc hx hown h
  have hg (off : Nat) : ¬ Reaches s i x (.shared r off) := fun hreach => by
    obtain ⟨-, howner⟩ := targetOk_of_reaches hc hreach
    rw [hown] at howner
    cases howner
  refine ⟨?_, exec_keeps_unreached_region hx hg h⟩
  have hrun := exec_withContents hx hg m
  rwa [h] at hrun

end Sys2Proof.Proofs
end

section
/-! The first matching window of a table (R81), as `List.find?`; and what the choice of a window does not depend on. -/

namespace Sys2Proof.Proofs

open Sys2Proof.Machine Sys2Proof.Claims

/-- Decode gives the target of the first window that matches. -/
theorem decodeWindows_eq_find (ws : List Window) (dir : Dir) (a : Addr) :
    decodeWindows ws dir a = ((ws.find? (·.hits dir a)).map (windowTarget · dir a)).getD .unmapped := by
  induction ws with
  | nil => rfl
  | cons x ws ih =>
    rw [decodeWindows, List.find?_cons]
    cases h : x.hits dir a
    · exact ih
    · rfl

/-- No window matches before the one that is taken. -/
theorem find_window_of_first {ws before after : List Window} {w : Window} {dir : Dir} {a : Addr}
    (hws : ws = before ++ w :: after) (hbefore : ∀ x ∈ before, x.hits dir a = false) (hw : w.hits dir a = true) :
    ws.find? (·.hits dir a) = some w :=
  List.find?_eq_some_iff_append.mpr ⟨hw, before, after, hws, fun x hx => by rw [hbefore x hx]; rfl⟩

theorem find_window_of_none {ws : List Window} {dir : Dir} {a : Addr} (h : ∀ x ∈ ws, x.hits dir a = false) :
    ws.find? (·.hits dir a) = none :=
  List.find?_eq_none.mpr fun x hx => by simp [h x hx]

/-- Two windows that fix some bit differently, or that do not both take the direction, do not match one address. -/
theorem refDecode_apart (p : Proc) (dir : Dir) :
    (refDecode.get p).Pairwise fun x y =>
      (!y.takes dir || Cube.apart ⟨x.mask, x.value⟩ y) = true ∨ x.takes dir = false := by
  cases p <;> cases dir <;> decide

theorem refDecode_no_overlap (p : Proc) (dir : Dir) (a : Addr) :
    (refDecode.get p).Pairwise fun x y => ¬(x.hits dir a = true ∧ y.hits dir a = true) := by
  refine (refDecode_apart p dir).imp fun {x y} h hxy => ?_
  obtain ⟨hx, hy⟩ := hxy
  obtain ⟨htakes, hcube⟩ := Bool.and_eq_true_iff.mp hx
  obtain h | h := h
  · simp [hits_of_apart h hcube] at hy
  · simp [htakes] at h

/-- Settles O8: `decodeWindows` is a search for the first window that matches. -/
theorem firstMatchingWindowWins : Obligations.FirstMatchingWindowWins := by
  refine ⟨fun c p dir a before w after hws hbefore hw => ?_, fun c p dir a hnone => ?_, refDecode_no_overlap⟩
  · rw [decodeAddr, decodeWindows_eq_find, find_window_of_first hws hbefore hw]
    rfl
  · rw [decodeAddr, decodeWindows_eq_find, find_window_of_none hnone]
    rfl

/-! ### Don't-care bits (R80) -/

/-- Addresses that agree on the bits of a mask are alike under it. -/
theorem and_eq_of_agree {a b m : Addr} (h : (a ^^^ b) &&& m = 0#16) : a &&& m = b &&& m := by
  refine BitVec.eq_of_getLsbD_eq fun i _ => ?_
  have hi := congrArg (·.getLsbD i) h
  simp only [BitVec.getLsbD_and, BitVec.getLsbD_xor, BitVec.getLsbD_zero] at hi ⊢
  cases hm : m.getLsbD i
  · simp
  · simpa [hm] using hi

theorem keyLevel_of_agree {a b : Addr} {key : Fin 16} (h : a &&& 1#16 <<< key.val = b &&& 1#16 <<< key.val)
    (act : Bool) : keyLevel key act a = keyLevel key act b := by
  have hkey := congrArg (·.getLsbD key.val) h
  simp only [BitVec.getLsbD_and, getLsbD_oneBit _ _ key.isLt, decide_true, Bool.and_true] at hkey
  rw [keyLevel, keyLevel, hkey]

/-- The target depends on the offset bits and the key bit alone. -/
theorem windowTarget_of_agree {w : Window} {a b : Addr} (hoff : a &&& w.offmask = b &&& w.offmask)
    (hkey : a &&& keyMask w = b &&& keyMask w) (dir : Dir) : windowTarget w dir a = windowTarget w dir b := by
  have ho : w.offset a = w.offset b := congrArg BitVec.toNat hoff
  cases hk : w.kind with
  | intCtl q key act =>
    rw [keyMask, hk] at hkey
    simp only [windowTarget, hk, keyLevel_of_agree hkey]
  | subRst key act =>
    rw [keyMask, hk] at hkey
    simp only [windowTarget, hk, keyLevel_of_agree hkey]
  | ioRst key act =>
    rw [keyMask, hk] at hkey
    simp only [windowTarget, hk, keyLevel_of_agree hkey]
  | _ => simp only [windowTarget, hk, ho]

/-- Settles O9: the match reads the bits of the mask alone, the target those of the offset mask and the key bit. -/
theorem dontCareBitsDecodeAlike : Obligations.DontCareBitsDecodeAlike := by
  intro w dir a b h
  simp only [BitVec.and_or_distrib_left, BitVec.or_eq_zero_iff] at h
  obtain ⟨⟨hmask, hoff⟩, hkey⟩ := h
  refine ⟨?_, windowTarget_of_agree (and_eq_of_agree hoff) (and_eq_of_agree hkey) dir⟩
  rw [Window.hits, Window.hits, and_eq_of_agree hmask]

/-! ### The reference map (R84 to R86) -/

/-- Settles O10: the ranges of R86 are what the reference tables leave unmatched. -/
theorem referenceUnmappedAddresses : Obligations.ReferenceUnmappedAddresses :=
  refTarget_unmapped_iff

/-- The two addresses of an SND byte differ in A10, which is no bit of the offset. -/
theorem sndOffset_mirror (low : BitVec 11) : (low ^^^ 0x400#11).extractLsb' 0 10 = low.extractLsb' 0 10 := by
  rw [BitVec.extractLsb'_xor, show (0x400#11).extractLsb' 0 10 = 0#10 by decide, BitVec.xor_zero]

/-- Settles O11: P0 is never held, so both transactions are served by the rule of the one SND byte. -/
theorem sndMirrorReachesTheSameByte : Obligations.SndMirrorReachesTheSameByte := by
  intro s low d hmap
  have hmirror (dir : Dir) : decodeWindows refDecodeP0 dir (0x08#5 ++ (low ^^^ 0x400#11)) =
      .shared .snd (low.extractLsb' 0 10).toNat := by rw [refTarget_p0Snd, sndOffset_mirror]
  constructor
  · rw [exec_of_reaches (i := .p0WrSnd low d) (reaches_ref hmap rfl rfl (refTarget_p0Snd .w low)),
      exec_of_reaches (i := .p0WrSnd _ d) (reaches_ref hmap rfl rfl (hmirror .w))]
    rfl
  · rw [exec_of_reaches (i := .p0RdSnd low) (reaches_ref hmap rfl rfl (refTarget_p0Snd .r low)),
      exec_of_reaches (i := .p0RdSnd _) (reaches_ref hmap rfl rfl (hmirror .r))]
    rfl

end Sys2Proof.Proofs
end

section
/-! The rows of a processor as data: which address bits each of them fixes, in the order the decoder tests them. What
the encoding statements ask of the six decoders (R71, R74) is proved once for any list of such rows. -/

namespace Sys2Proof.Proofs

open Sys2Proof.Machine Sys2Proof.Claims

/-! ### The fields of a packed word (R70) -/

theorem fields_pack (g : BitVec 2) (b : BitVec 1) (a : Addr) (d : Byte) :
    agentOf (pack g b a d) = g ∧ dirOf (pack g b a d) = b ∧ addrOf (pack g b a d) = a ∧ dataOf (pack g b a d) = d :=
  pack_inj.mp (pack_fields (pack g b a d))

@[simp] theorem agentOf_pack (g : BitVec 2) (b : BitVec 1) (a : Addr) (d : Byte) : agentOf (pack g b a d) = g :=
  (fields_pack g b a d).1
@[simp] theorem dirOf_pack (g : BitVec 2) (b : BitVec 1) (a : Addr) (d : Byte) : dirOf (pack g b a d) = b :=
  (fields_pack g b a d).2.1
@[simp] theorem addrOf_pack (g : BitVec 2) (b : BitVec 1) (a : Addr) (d : Byte) : addrOf (pack g b a d) = a :=
  (fields_pack g b a d).2.2.1
@[simp] theorem dataOf_pack (g : BitVec 2) (b : BitVec 1) (a : Addr) (d : Byte) : dataOf (pack g b a d) = d :=
  (fields_pack g b a d).2.2.2

theorem exists_bit (b : BitVec 1) : ∃ dir : Dir, b = dir.bit := by
  by_cases hb : b = 0#1
  · exact ⟨.r, hb⟩
  · exact ⟨.w, by revert b; decide⟩

/-- A word is a processor's or agent 3's (R70). -/
theorem agent_cases (w : TxWord) : (∃ p : Proc, agentOf w = p.agent) ∨ agentOf w = 3#2 := by
  have hall : ∀ g : BitVec 2, g = Proc.p0.agent ∨ g = Proc.p1.agent ∨ g = Proc.p2.agent ∨ g = 3#2 := by decide
  obtain h | h | h | h := hall (agentOf w)
  · exact .inl ⟨_, h⟩
  · exact .inl ⟨_, h⟩
  · exact .inl ⟨_, h⟩
  · exact .inr h

theorem agent_ne_three (p : Proc) : p.agent ≠ 3#2 := by
  cases p <;> decide

/-! ### Rows as address forms -/

/-- A row that fixes the address bits above its `k` open ones, and the instruction that takes the open bits and, in a
write, the data byte. -/
structure RowForm where
  {n k : Nat}
  width : n + k = 16
  fixed : BitVec n
  make : BitVec k → Byte → Instr

/-- The address of the row with the given open bits. -/
def RowForm.addr (f : RowForm) (low : BitVec f.k) : Addr := (f.fixed ++ low).cast f.width

/-- The address has the bits the row fixes. -/
abbrev RowForm.fits (f : RowForm) (a : Addr) : Prop := a.extractLsb' f.k f.n = f.fixed

/-- The instruction of the row at an address. -/
def RowForm.instr (f : RowForm) (a : Addr) (d : Byte) : Instr := f.make (a.extractLsb' 0 f.k) d

theorem RowForm.toNat_addr (f : RowForm) (low : BitVec f.k) :
    (f.addr low).toNat = f.fixed.toNat * 2 ^ f.k + low.toNat := by
  rw [addr, BitVec.toNat_cast, toNat_append_low]

/-- Fitting as arithmetic: there are no address bits above the fixed ones. -/
theorem RowForm.fits_iff (f : RowForm) (a : Addr) : f.fits a ↔ a.toNat / 2 ^ f.k = f.fixed.toNat := by
  have hlt : a.toNat / 2 ^ f.k < 2 ^ f.n := by
    rw [Nat.div_lt_iff_lt_mul (Nat.two_pow_pos _), ← pow_add, f.width]
    exact a.isLt
  rw [fits, ← BitVec.toNat_inj, BitVec.extractLsb'_toNat, Nat.shiftRight_eq_div_pow, Nat.mod_eq_of_lt hlt]

theorem RowForm.fits_addr (f : RowForm) (low : BitVec f.k) : f.fits (f.addr low) := by
  rw [fits_iff, addr, BitVec.toNat_cast, toNat_append_div]

@[simp] theorem RowForm.instr_addr (f : RowForm) (low : BitVec f.k) (d : Byte) :
    f.instr (f.addr low) d = f.make low d := by
  refine congrArg (f.make · d) (BitVec.eq_of_toNat_eq ?_)
  rw [BitVec.extractLsb'_toNat, Nat.shiftRight_zero, addr, BitVec.toNat_cast, toNat_append_mod]

/-- An address that has the fixed bits is an address of the row. -/
theorem RowForm.addr_of_fits {f : RowForm} {a : Addr} (h : f.fits a) : f.addr (a.extractLsb' 0 f.k) = a := by
  apply BitVec.eq_of_toNat_eq
  rw [f.toNat_addr, BitVec.extractLsb'_toNat, Nat.shiftRight_zero, ← (f.fits_iff a).mp h, Nat.div_add_mod']

/-- The first row of the list that fits the address, else `i`. -/
def firstForm : List RowForm → Instr → Addr → Byte → Instr
  | [], i, _, _ => i
  | f :: fs, i, a, d => if f.fits a then f.instr a d else firstForm fs i a d

/-- Where no two rows fit one address, a row of the list that fits is the one found. -/
theorem firstForm_of_fits {fs : List RowForm} {f : RowForm} {a : Addr}
    (hapart : fs.Pairwise fun f g => ¬(f.fits a ∧ g.fits a)) (hf : f ∈ fs) (hfit : f.fits a) (i : Instr) (d : Byte) :
    firstForm fs i a d = f.instr a d := by
  induction fs with
  | nil => cases hf
  | cons g fs ih =>
    obtain ⟨hhead, htail⟩ := List.pairwise_cons.mp hapart
    rcases List.mem_cons.mp hf with rfl | hf
    · exact if_pos hfit
    · exact (if_neg fun hg => hhead f hf ⟨hg, hfit⟩).trans (ih htail hf)

/-! ### The rows of the table -/

/-- The plain rows of a processor and a direction, each with the address bits it fixes (opcode_table.json). -/
def forms : Proc → Dir → List RowForm
  | .p0, .r =>
    [⟨rfl, 0x00#5, fun low _ => .p0RdVram low⟩, ⟨rfl, 0x01#5, fun low _ => .p0RdWramA low⟩,
     ⟨rfl, 0x02#5, fun low _ => .p0RdWramB low⟩, ⟨rfl, 0x08#5, fun low _ => .p0RdSnd low⟩,
     ⟨rfl, 0x680#12, fun low _ => .p0RdIo0 low⟩, ⟨rfl, 0x681#12, fun low _ => .p0RdIo1 low⟩,
     ⟨rfl, 0x682#12, fun low _ => .p0RdIo2 low⟩, ⟨rfl, 0x0F#5, fun low _ => .p0RdWdog low⟩,
     ⟨rfl, 0x1#1, fun low _ => .p0RdRom low⟩]
  | .p0, .w =>
    [⟨rfl, 0x00#5, .p0WrVram⟩, ⟨rfl, 0x01#5, .p0WrWramA⟩, ⟨rfl, 0x02#5, .p0WrWramB⟩, ⟨rfl, 0x08#5, .p0WrSnd⟩,
     ⟨rfl, 0x680#12, .p0WrIo0⟩, ⟨rfl, 0x681#12, .p0WrIo1⟩, ⟨rfl, 0x682#12, .p0WrIo2⟩, ⟨rfl, 0x7#4, .p0WrIntctl0⟩,
     ⟨rfl, 0x8#4, .p0WrSubrst⟩, ⟨rfl, 0x9#4, .p0WrIorst⟩]
  | .p1, .r =>
    [⟨rfl, 0x00#5, fun low _ => .p1RdVram low⟩, ⟨rfl, 0x01#5, fun low _ => .p1RdWramA low⟩,
     ⟨rfl, 0x02#5, fun low _ => .p1RdWramB low⟩, ⟨rfl, 0x7#3, fun low _ => .p1RdRom low⟩]
  | .p1, .w =>
    [⟨rfl, 0x00#5, .p1WrVram⟩, ⟨rfl, 0x01#5, .p1WrWramA⟩, ⟨rfl, 0x02#5, .p1WrWramB⟩, ⟨rfl, 0x6#4, .p1WrIntctl1⟩]
  | .p2, .r =>
    [⟨rfl, 0x00#6, fun low _ => .p2RdSnd low⟩, ⟨rfl, 0x1#3, fun low _ => .p2RdWdog low⟩,
     ⟨rfl, 0x7#3, fun low _ => .p2RdRom low⟩]
  | .p2, .w =>
    [⟨rfl, 0x00#6, .p2WrSnd⟩, ⟨rfl, 0x1#3, .p2WrWdog⟩, ⟨rfl, 0x1#2, .p2WrIntctl2⟩]

/-- The Unmapped instruction of a processor and a direction. -/
def unmappedInstr : Proc → Dir → Addr → Byte → Instr
  | .p0, .r, a, _ => .p0RdUnmapped a
  | .p0, .w, a, d => .p0WrUnmapped a d
  | .p1, .r, a, _ => .p1RdUnmapped a
  | .p1, .w, a, d => .p1WrUnmapped a d
  | .p2, .r, a, _ => .p2RdUnmapped a
  | .p2, .w, a, d => .p2WrUnmapped a d

/-- The decoder of a processor and a direction tries the rows in order and falls back on Unmapped (R74). -/
def decodeAccess (p : Proc) (dir : Dir) (a : Addr) (d : Byte) : Instr :=
  firstForm (forms p dir) (unmappedInstr p dir a d) a d

theorem decode_eq {w : TxWord} {p : Proc} {dir : Dir} (hp : agentOf w = p.agent) (hd : dirOf w = dir.bit) :
    decode w = decodeAccess p dir (addrOf w) (dataOf w) := by
  rw [decode, hp, hd]
  cases p <;> cases dir <;> rfl

theorem decode_pack (p : Proc) (dir : Dir) (a : Addr) (d : Byte) :
    decode (pack p.agent dir.bit a d) = decodeAccess p dir a d := by
  rw [decode_eq (agentOf_pack ..) (dirOf_pack ..), addrOf_pack, dataOf_pack]

theorem decode_event {w : TxWord} (h : agentOf w = 3#2) : decode w = decodeEvent w := by
  rw [decode, h]
  rfl

/-- The data byte an instruction carries: that of a write, and the canonical 0x00 of a read (R71). -/
def carried (dir : Dir) (d : Byte) : Byte :=
  match dir with
  | .r => 0x00#8
  | .w => d

/-- What ties a row of the decoder to a window of the reference table (R84, R89). -/
structure RowForm.RowOf (p : Proc) (dir : Dir) (f : RowForm) (x : Window) : Prop where
  tx : ∀ low d, (f.make low d).tx = .access ⟨p, dir, f.addr low, carried dir d⟩
  takes : x.takes dir = true
  wf : ∀ low d, (f.make low d).wf = true
  row : ∀ low d, (f.make low d).row = windowRow p dir x
  value : x.value = f.addr 0#f.k
  mask : x.mask = BitVec.allOnes 16 <<< f.k

/-- The plain rows of a processor and a direction are those of its windows, in table order. -/
theorem forms_rowOf (p : Proc) (dir : Dir) :
    List.Forall₂ (RowForm.RowOf p dir) (forms p dir) ((refDecode.get p).filter (·.takes dir)) := by
  cases p <;> cases dir <;>
    (repeat refine .cons ⟨fun _ _ => rfl, rfl, fun _ _ => rfl, fun _ _ => rfl, rfl, rfl⟩ ?_) <;> exact .nil

/-- A row fits an address exactly when its window matches. -/
theorem RowForm.RowOf.fits_iff_hits {p : Proc} {dir : Dir} {f : RowForm} {x : Window} (h : f.RowOf p dir x)
    (a : Addr) : f.fits a ↔ x.hits dir a = true := by
  have hv : x.value.toNat = f.fixed.toNat * 2 ^ f.k := by
    rw [h.value, f.toNat_addr, BitVec.toNat_ofNat, Nat.zero_mod, Nat.add_zero]
  rw [Window.hits, h.takes, Bool.true_and, hit_high a x.mask x.value f.k h.mask (by rw [hv, Nat.mul_mod_left]),
    decide_eq_true_iff, hv, Nat.mul_div_cancel _ (Nat.two_pow_pos _), f.fits_iff]

/-- The first row that fits is the row of the first window that matches. -/
theorem firstForm_window {p : Proc} {dir : Dir} {fs : List RowForm} {ws : List Window}
    (h : List.Forall₂ (RowForm.RowOf p dir) fs ws) (i : Instr) (a : Addr) (d : Byte) :
    (∃ (f : RowForm) (x : Window), f.RowOf p dir x ∧ f.fits a ∧ firstForm fs i a d = f.instr a d ∧
      ws.find? (·.hits dir a) = some x) ∨
    firstForm fs i a d = i ∧ ws.find? (·.hits dir a) = none := by
  induction h with
  | nil => exact .inr ⟨rfl, rfl⟩
  | @cons f x fs ws hfx _ ih =>
    by_cases hfit : f.fits a
    · exact .inl ⟨f, x, hfx, hfit, if_pos hfit, List.find?_cons_of_pos ((hfx.fits_iff_hits a).mp hfit)⟩
    · have hmiss : ¬x.hits dir a = true := mt (hfx.fits_iff_hits a).mpr hfit
      rwa [firstForm, if_neg hfit, List.find?_cons_of_neg (p := fun y => Window.hits y dir a) hmiss]

/-- Windows that do not take the direction do not match in it. -/
theorem find_window_filter (ws : List Window) (dir : Dir) (a : Addr) :
    (ws.filter (·.takes dir)).find? (·.hits dir a) = ws.find? (·.hits dir a) := by
  rw [List.find?_filter]
  congr 1
  funext x
  cases h : x.takes dir <;> simp [Window.hits, h, Bool.beq_eq_decide_eq]

/-- Everything the decoder of a processor can answer: the instruction of the row whose window of the reference table is
the first to match, or Unmapped where no window matches (R74, R81). -/
theorem decodeAccess_cases (p : Proc) (dir : Dir) (a : Addr) (d : Byte) :
    (∃ (f : RowForm) (x : Window), f.RowOf p dir x ∧ f.fits a ∧ decodeAccess p dir a d = f.instr a d ∧
      (refDecode.get p).find? (·.hits dir a) = some x) ∨
    decodeAccess p dir a d = unmappedInstr p dir a d ∧ (refDecode.get p).find? (·.hits dir a) = none := by
  rw [← find_window_filter]
  exact firstForm_window (forms_rowOf p dir) (unmappedInstr p dir a d) a d

theorem unmappedInstr_tx (p : Proc) (dir : Dir) (a : Addr) (d : Byte) :
    (unmappedInstr p dir a d).tx = .access ⟨p, dir, a, carried dir d⟩ := by
  cases p <;> cases dir <;> rfl

/-- The instruction of a word stands for the word's own access. -/
theorem decodeAccess_tx (p : Proc) (dir : Dir) (a : Addr) (d : Byte) :
    (decodeAccess p dir a d).tx = .access ⟨p, dir, a, carried dir d⟩ := by
  obtain ⟨f, x, hfx, hfit, he, -⟩ | ⟨he, -⟩ := decodeAccess_cases p dir a d
  · rw [he, RowForm.instr, hfx.tx, RowForm.addr_of_fits hfit]
  · rw [he, unmappedInstr_tx]

theorem unmappedInstr_wf (p : Proc) (dir : Dir) (a : Addr) (d : Byte) :
    (unmappedInstr p dir a d).wf = refUnmapped p dir a := by
  cases p <;> cases dir <;> rfl

/-- An address that no window of the reference table matches is one of R86. -/
theorem refUnmapped_iff_find_none (p : Proc) (dir : Dir) (a : Addr) :
    refUnmapped p dir a = true ↔ (refDecode.get p).find? (·.hits dir a) = none := by
  rw [← refTarget_unmapped_iff, decodeWindows_eq_find]
  cases h : (refDecode.get p).find? (·.hits dir a) with
  | none => simp
  | some x => cases hk : x.kind <;> simp [windowTarget, hk]

theorem decodeAccess_wf (p : Proc) (dir : Dir) (a : Addr) (d : Byte) : (decodeAccess p dir a d).wf = true := by
  obtain ⟨f, x, hfx, -, he, -⟩ | ⟨he, hnone⟩ := decodeAccess_cases p dir a d
  · rw [he, RowForm.instr, hfx.wf]
  · rw [he, unmappedInstr_wf, refUnmapped_iff_find_none, hnone]

/-! ### Every well-formed processor instruction is found again -/

/-- Every well-formed processor instruction is of a plain row of its processor and direction, or is Unmapped at an
address of R86. -/
theorem instr_cases {i : Instr} {p : Proc} {dir : Dir} {a : Addr} {d : Byte} (hwf : i.wf = true)
    (hx : i.access = some ⟨p, dir, a, d⟩) :
    (∃ f ∈ forms p dir, ∃ low, i = f.make low d ∧ f.addr low = a) ∨
      i = unmappedInstr p dir a d ∧ refUnmapped p dir a = true := by
  cases i <;> cases hx
  case p0RdUnmapped => exact .inr ⟨rfl, hwf⟩
  case p0WrUnmapped => exact .inr ⟨rfl, hwf⟩
  case p1RdUnmapped => exact .inr ⟨rfl, hwf⟩
  case p1WrUnmapped => exact .inr ⟨rfl, hwf⟩
  case p2RdUnmapped => exact .inr ⟨rfl, hwf⟩
  case p2WrUnmapped => exact .inr ⟨rfl, hwf⟩
  all_goals exact .inl (by simp [forms, RowForm.addr])

/-- The bits a row fixes from bit `m` on. -/
def RowForm.head (f : RowForm) (m : Nat) : Nat := f.fixed.toNat / 2 ^ (m - f.k)

theorem RowForm.head_of_fits {f : RowForm} {a : Addr} {m : Nat} (h : f.fits a) (hm : f.k ≤ m) :
    f.head m = a.toNat / 2 ^ m := by
  rw [head, ← (f.fits_iff a).mp h, Nat.div_div_eq_div_mul, ← pow_add, Nat.add_sub_cancel' hm]

/-- No address fits two rows: they differ in the bits both fix. -/
theorem forms_apart (p : Proc) (dir : Dir) (a : Addr) :
    (forms p dir).Pairwise fun f g => ¬(f.fits a ∧ g.fits a) := by
  have hheads : (forms p dir).Pairwise fun f g => f.head (max f.k g.k) ≠ g.head (max f.k g.k) := by
    cases p <;> cases dir <;> decide
  refine hheads.imp fun {f g} hne hfits => hne ?_
  rw [f.head_of_fits hfits.1 (Nat.le_max_left ..), g.head_of_fits hfits.2 (Nat.le_max_right ..)]

theorem decodeAccess_of_access {i : Instr} {x : Access} (hwf : i.wf = true) (hx : i.access = some x) :
    decodeAccess x.proc x.dir x.addr x.data = i := by
  obtain ⟨p, dir, a, d⟩ := x
  obtain ⟨f, hf, low, rfl, rfl⟩ | ⟨rfl, ha⟩ := instr_cases hwf hx
  · rw [decodeAccess, firstForm_of_fits (forms_apart ..) hf (f.fits_addr low), f.instr_addr]
  · obtain ⟨f, x, -, -, -, hx⟩ | ⟨he, -⟩ := decodeAccess_cases p dir a d
    · rw [(refUnmapped_iff_find_none ..).mp ha] at hx
      cases hx
    · exact he

end Sys2Proof.Proofs
end

section
/-! The event words (R72, R73). -/

namespace Sys2Proof.Proofs

open Sys2Proof.Machine Sys2Proof.Claims

/-! ### The 25 bits below the agent field -/

theorem extract_rest (w : TxWord) {start len : Nat} (h : start + len ≤ 25) :
    (w.extractLsb' 0 25).extractLsb' start len = w.extractLsb' start len := by
  refine BitVec.eq_of_getLsbD_eq fun i hi => ?_
  have hlt : start + i < 25 := by omega
  simp [hi, hlt]

theorem event_word_rest {w : TxWord} (h : agentOf w = 3#2) : 3#2 ++ w.extractLsb' 0 25 = w := by
  apply BitVec.eq_of_toNat_eq
  have hagent := congrArg BitVec.toNat h
  have hw := w.isLt
  simp only [agentOf, BitVec.extractLsb'_toNat, Nat.shiftRight_eq_div_pow, BitVec.toNat_ofNat] at hagent
  rw [toNat_append_low, BitVec.extractLsb'_toNat, Nat.shiftRight_zero, BitVec.toNat_ofNat]
  omega

/-- The reserved words by their fields (R73). -/
theorem isReservedRest_iff (w : TxWord) :
    isReservedRest (w.extractLsb' 0 25) = true ↔ dirOf w = 1#1 ∨ isEventCode (addrOf w) = false := by
  rw [isReservedRest, extract_rest w (by decide), extract_rest w (by decide), Bool.or_eq_true, beq_iff_eq,
    Bool.not_eq_true']
  rfl

theorem bit_eq_zero {b : BitVec 1} (h : ¬b = 1#1) : b = 0#1 := by
  revert b
  decide

/-! ### The event rows -/

/-- The instruction an agent-3 word stands for: the event its code names, else the reserved row with all its bits. -/
inductive EventRow (w : TxWord) : Instr → Prop
  | tick (hd : dirOf w = 0#1) (hc : addrOf w = 0x0000#16) : EventRow w .evTick
  | poweron (hd : dirOf w = 0#1) (hc : addrOf w = 0x0001#16) : EventRow w .evPoweron
  | sysreset (hd : dirOf w = 0#1) (hc : addrOf w = 0x0002#16) : EventRow w .evSysreset
  | setin (g : Group) (hd : dirOf w = 0#1) (hc : addrOf w = g.code) : EventRow w (setIn g (dataOf w))
  | reserved (h : isReservedRest (w.extractLsb' 0 25) = true) : EventRow w (.evReserved (w.extractLsb' 0 25))

/-- What the decoder answers for an agent-3 word. -/
theorem decodeEvent_row (w : TxWord) : EventRow w (decodeEvent w) := by
  unfold decodeEvent
  split_ifs with hd h0 h1 h2 h10 h11 h12 h13
  · exact .reserved ((isReservedRest_iff w).mpr (.inl hd))
  all_goals have hd := bit_eq_zero hd
  · exact .tick hd h0
  · exact .poweron hd h1
  · exact .sysreset hd h2
  · exact .setin .joy hd h10
  · exact .setin .btn hd h11
  · exact .setin .dswa hd h12
  · exact .setin .dswb hd h13
  · exact .reserved ((isReservedRest_iff w).mpr (.inr (by simp [isEventCode, *])))

theorem code_isEventCode (g : Group) : isEventCode g.code = true := by
  cases g <;> decide

theorem not_reserved_of_code {w : TxWord} (hd : dirOf w = 0#1) (hc : isEventCode (addrOf w) = true) :
    ¬isReservedRest (w.extractLsb' 0 25) = true := by
  rw [isReservedRest_iff, hd, hc]
  decide

/-- The reserved row is taken exactly by the words R73 names. -/
theorem decodeEvent_eq_reserved_iff (w : TxWord) (rest : BitVec 25) :
    decodeEvent w = .evReserved rest ↔ isReservedRest (w.extractLsb' 0 25) = true ∧ rest = w.extractLsb' 0 25 := by
  have hno {i : Instr} (hi : i ≠ .evReserved rest) (hd : dirOf w = 0#1) (hc : isEventCode (addrOf w) = true) :
      i = .evReserved rest ↔ isReservedRest (w.extractLsb' 0 25) = true ∧ rest = w.extractLsb' 0 25 :=
    iff_of_false hi fun h => not_reserved_of_code hd hc h.1
  have hrow := decodeEvent_row w
  generalize decodeEvent w = i at hrow ⊢
  cases hrow with
  | tick hd hc => exact hno (by simp) hd (by rw [hc]; decide)
  | poweron hd hc => exact hno (by simp) hd (by rw [hc]; decide)
  | sysreset hd hc => exact hno (by simp) hd (by rw [hc]; decide)
  | setin g hd hc => exact hno (by cases g <;> simp [setIn]) hd (by rw [hc, code_isEventCode])
  | reserved h => simp [h, eq_comm]

theorem encode_setIn (g : Group) (b : Byte) : encode (setIn g b) = pack 3#2 0#1 g.code b := by
  cases g <;> exact Laws.event_word _ _

theorem decodeEvent_setIn (g : Group) (b : Byte) : decodeEvent (pack 3#2 0#1 g.code b) = setIn g b := by
  rw [decodeEvent, dirOf_pack, addrOf_pack, dataOf_pack]
  cases g <;> rfl

/-- Decoding the word of a well-formed event gives it back. -/
theorem decode_encode_event {i : Instr} (hwf : i.wf = true) (hx : i.access = none) : decode (encode i) = i := by
  have hset (g : Group) (b : Byte) : decode (encode (setIn g b)) = setIn g b := by
    rw [encode_setIn, decode_event (agentOf_pack ..), decodeEvent_setIn]
  cases i <;> simp only [Instr.access, Instr.tx, reduceCtorEq] at hx
  case evTick => rfl
  case evPoweron => rfl
  case evSysreset => rfl
  case evSetinJoy b => exact hset .joy b
  case evSetinBtn b => exact hset .btn b
  case evSetinDswa b => exact hset .dswa b
  case evSetinDswb b => exact hset .dswb b
  case evReserved rest =>
    have hrest : (encode (.evReserved rest)).extractLsb' 0 25 = rest := BitVec.extractLsb'_append_eq_right
    have hagent : agentOf (encode (.evReserved rest)) = 3#2 := BitVec.extractLsb'_append_eq_left
    rw [decode_event hagent, decodeEvent_eq_reserved_iff, hrest]
    exact ⟨hwf, rfl⟩

end Sys2Proof.Proofs
end

section
/-! Decode and encode are inverse up to the bits the spec says are ignored (R70 to R74). -/

namespace Sys2Proof.Proofs

open Sys2Proof.Machine Sys2Proof.Claims

theorem encode_of_access {i : Instr} {x : Access} (hx : i.access = some x) :
    encode i = pack x.proc.agent x.dir.bit x.addr x.data := by
  rw [Instr.access] at hx
  split at hx
  · next y ht =>
    cases hx
    rw [encode, ht, Tx.word]
  · cases hx

/-- Settles O1: a processor's word is decoded by the row whose fixed bits its address has, and no other row of the
processor and direction fits that address; an event's word by its code. -/
theorem decodeInvertsEncode : Obligations.DecodeInvertsEncode := by
  intro i hwf
  cases hx : i.access with
  | some x => rw [encode_of_access hx, decode_pack, decodeAccess_of_access hwf hx]
  | none => exact decode_encode_event hwf hx

theorem access_decodeAccess (p : Proc) (dir : Dir) (a : Addr) (d : Byte) :
    (decodeAccess p dir a d).access = some ⟨p, dir, a, carried dir d⟩ := by
  rw [Instr.access, decodeAccess_tx]

theorem encode_decodeAccess (p : Proc) (dir : Dir) (a : Addr) (d : Byte) :
    encode (decodeAccess p dir a d) = pack p.agent dir.bit a (carried dir d) := by
  rw [encode_of_access (access_decodeAccess p dir a d)]

theorem encode_decode_event {w : TxWord} (h : agentOf w = 3#2) : encode (decodeEvent w) = canonical w := by
  have hevent {e : BitVec 16} (hd : dirOf w = 0#1) (hc : addrOf w = e)
      (he : e = 0x0000#16 ∨ e = 0x0001#16 ∨ e = 0x0002#16) : canonical w = pack 3#2 0#1 e 0x00#8 := by
    rw [canonical, if_pos h, hc, if_pos ⟨hd, he⟩]
  have hrow := decodeEvent_row w
  generalize decodeEvent w = i at hrow ⊢
  cases hrow with
  | tick hd hc => exact (Laws.event_word _ _).trans (hevent hd hc (.inl rfl)).symm
  | poweron hd hc => exact (Laws.event_word _ _).trans (hevent hd hc (.inr (.inl rfl))).symm
  | sysreset hd hc => exact (Laws.event_word _ _).trans (hevent hd hc (.inr (.inr rfl))).symm
  | setin g hd hc =>
    have hcode : ¬(g.code = 0x0000#16 ∨ g.code = 0x0001#16 ∨ g.code = 0x0002#16) := by cases g <;> decide
    rw [canonical, if_pos h, hc, if_neg fun hno => hcode hno.2, encode_setIn, ← h, ← hd, ← hc, pack_fields]
  | reserved hres =>
    have hno : ¬(dirOf w = 0#1 ∧ (addrOf w = 0x0000#16 ∨ addrOf w = 0x0001#16 ∨ addrOf w = 0x0002#16)) := by
      rintro ⟨hd, hc⟩
      refine not_reserved_of_code hd ?_ hres
      obtain hc | hc | hc := hc <;> rw [hc] <;> decide
    rw [canonical, if_pos h, if_neg hno]
    exact event_word_rest h

/-- Settles O2: the instruction of a word keeps its agent, direction, address or code, and the data of a write or a
SETIN; the reserved row keeps every bit. -/
theorem encodeInvertsDecode : Obligations.EncodeInvertsDecode := by
  intro w
  obtain ⟨p, hp⟩ | h := agent_cases w
  · obtain ⟨dir, hd⟩ := exists_bit (dirOf w)
    rw [decode_eq hp hd, encode_decodeAccess, canonical, if_neg (hp ▸ agent_ne_three p)]
    cases dir
    · rw [if_pos (c := dirOf w = 0#1) hd, hp]
      rfl
    · rw [if_neg (c := dirOf w = 0#1) (by rw [hd]; decide), ← hp, ← hd]
      exact pack_fields w
  · rw [decode_event h, encode_decode_event h]

/-- The read rows take no data byte. -/
theorem decodeAccess_read (p : Proc) (a : Addr) (d e : Byte) : decodeAccess p .r a d = decodeAccess p .r a e := by
  cases p <;> rfl

/-- Settles O7: no read row takes the data field, and its canonical byte is 0x00. -/
theorem readDataFieldIsIgnored : Obligations.ReadDataFieldIsIgnored := by
  intro v w hagent hv hw hd ha
  obtain ⟨p, hp⟩ := (agent_cases v).resolve_right hagent
  rw [decode_eq (dir := .r) hp hv, decode_eq (dir := .r) (hw.trans hp) hd, ha]
  refine ⟨decodeAccess_read .., ?_⟩
  rw [encode_decodeAccess, dataOf_pack]
  rfl

/-- Settles O16: the reserved row is the last of the event rows, and it keeps the bits below the agent field, so the
refusal records the word. -/
theorem reservedWordsAreRefused : Obligations.ReservedWordsAreRefused := by
  have hagent {w : TxWord} {rest : BitVec 25} (h : decode w = .evReserved rest) : agentOf w = 3#2 := by
    obtain ⟨p, hp⟩ | h3 := agent_cases w
    · obtain ⟨dir, hd⟩ := exists_bit (dirOf w)
      have hx := access_decodeAccess p dir (addrOf w) (dataOf w)
      rw [← decode_eq hp hd, h] at hx
      cases hx
    · exact h3
  refine ⟨fun w => ⟨?_, ?_⟩, fun s w rest h => ?_, fun s rest => rfl⟩
  · rintro ⟨rest, h⟩
    have h3 := hagent h
    rw [decode_event h3, decodeEvent_eq_reserved_iff, isReservedRest_iff] at h
    exact ⟨h3, h.1⟩
  · rintro ⟨h3, hres⟩
    exact ⟨_, (decode_event h3).trans
      ((decodeEvent_eq_reserved_iff w _).mpr ⟨(isReservedRest_iff w).mpr hres, rfl⟩)⟩
  · have h3 := hagent h
    rw [decode_event h3, decodeEvent_eq_reserved_iff] at h
    obtain ⟨-, rfl⟩ := h
    exact congrArg (fun v => Host.Outcome.refused (Refusal.reserved v)) (event_word_rest h3)

end Sys2Proof.Proofs
end

section
/-! The rows regenerated from a configuration (R89): the row of a word is that of the first window that matches. -/

namespace Sys2Proof.Proofs

open Sys2Proof.Machine Sys2Proof.Claims

/-! ### The words of a processor -/

/-- The row regenerated from the first window that matches, else the Unmapped row. -/
def rowAt (c : Config) (p : Proc) (dir : Dir) (a : Addr) : OpRow :=
  (((c.decode.get p).find? (·.hits dir a)).map (windowRow p dir)).getD (unmappedRow p dir)

/-- Among the rows of a processor and a direction, the first that matches a word of theirs is the one its address
finds. -/
theorem find_procRows {p : Proc} {dir : Dir} {w : TxWord} (c : Config) (hp : agentOf w = p.agent)
    (hd : dirOf w = dir.bit) : (procRows c p dir).find? (·.hits w) = some (rowAt c p dir (addrOf w)) := by
  have hrow (x : Window) : decide (x.takes dir = true ∧ (windowRow p dir x).hits w = true) = x.hits dir (addrOf w) := by
    rw [Bool.eq_iff_iff, decide_eq_true_iff, windowRow_hits_iff, Window.hits, Bool.and_eq_true, beq_iff_eq]
    simp [hp, hd]
  have hlast : (unmappedRow p dir).hits w = true := (unmappedRow_hits_iff p dir w).mpr ⟨hp, hd⟩
  rw [procRows, List.find?_append, List.find?_map, List.find?_filter, rowAt, List.find?_singleton, if_pos hlast]
  simp only [Function.comp_def, hrow]
  cases (c.decode.get p).find? (·.hits dir (addrOf w)) <;> rfl

theorem rowIn_of_processor {p : Proc} {dir : Dir} {w : TxWord} (c : Config) (hp : agentOf w = p.agent)
    (hd : dirOf w = dir.bit) : rowIn c w = rowAt c p dir (addrOf w) :=
  rowIn_eq c hp hd (find_procRows c hp hd)

/-- Settles O52: the rows of a table stand in the order of its windows, the fallback row last. -/
theorem regeneratedRowsFollowTheDecoder : Obligations.RegeneratedRowsFollowTheDecoder := by
  intro c p dir w hp hd
  rw [rowIn_of_processor c hp hd, rowAt]
  refine ⟨fun before x after hws hbefore hx => ?_, fun hnone => ?_⟩
  · rw [find_window_of_first hws hbefore hx]
    rfl
  · rw [find_window_of_none hnone]
    rfl

/-- The row an instruction is decoded by is the row regenerated from the window of REFCFG that matches. -/
theorem decodeAccess_row (p : Proc) (dir : Dir) (a : Addr) (d : Byte) :
    (decodeAccess p dir a d).row = rowAt refConfig p dir a := by
  have htable : refConfig.decode = refDecode := rfl
  obtain ⟨f, x, hfx, -, he, hx⟩ | ⟨he, hnone⟩ := decodeAccess_cases p dir a d
  · rw [he, RowForm.instr, hfx.row, rowAt, htable, hx]
    rfl
  · rw [he, rowAt, htable, hnone]
    cases p <;> cases dir <;> rfl

/-! ### The event words -/

/-- The row of an event code. -/
def codeRow (name : String) (e : BitVec 16) : OpRow :=
  ⟨name, pack 3#2 0#1 e 0x00#8, pack 3#2 1#1 0xFFFF#16 0x00#8, false⟩

theorem codeRow_hits {w : TxWord} (h : agentOf w = 3#2) (name : String) (e : BitVec 16) :
    (codeRow name e).hits w = decide (dirOf w = 0#1 ∧ addrOf w = e) := by
  have hall : addrOf w &&& 0xFFFF#16 = addrOf w := BitVec.and_allOnes
  rw [Bool.eq_iff_iff, codeRow, row_hits_iff, hall, decide_eq_true_iff]
  simp [h]

theorem eventRows_eq : eventRows =
    [codeRow "EV.TICK" 0x0000#16, codeRow "EV.POWERON" 0x0001#16, codeRow "EV.SYSRESET" 0x0002#16,
     codeRow "EV.SETIN.JOY" 0x0010#16, codeRow "EV.SETIN.BTN" 0x0011#16, codeRow "EV.SETIN.DSWA" 0x0012#16,
     codeRow "EV.SETIN.DSWB" 0x0013#16, Instr.row (.evReserved 0)] := by
  decide

theorem reservedRow_hits {w : TxWord} (h : agentOf w = 3#2) : (Instr.row (.evReserved 0)).hits w = true := by
  have hw := Laws.EncodeHitsRow.evReserved (w.extractLsb' 0 25)
  exact event_word_rest h ▸ hw

/-- The first event row that matches is the row of the event. -/
theorem find_eventRows {w : TxWord} (h : agentOf w = 3#2) :
    eventRows.find? (·.hits w) = some (decodeEvent w).row := by
  have hrow := decodeEvent_row w
  rw [eventRows_eq]
  generalize decodeEvent w = i at hrow ⊢
  cases hrow with
  | tick hd hc => simp [codeRow_hits h, hd, hc]; rfl
  | poweron hd hc => simp [codeRow_hits h, hd, hc]; rfl
  | sysreset hd hc => simp [codeRow_hits h, hd, hc]; rfl
  | setin g hd hc => cases g <;> simp [codeRow_hits h, hd, hc, Group.code] <;> rfl
  | reserved hres =>
    obtain hd | hc := (isReservedRest_iff w).mp hres
    · simp [codeRow_hits h, hd]
      exact ⟨reservedRow_hits h, rfl⟩
    · simp only [isEventCode, Bool.or_eq_false_iff, beq_eq_false_iff_ne] at hc
      simp [codeRow_hits h, hc]
      exact ⟨reservedRow_hits h, rfl⟩

/-- No row of a processor matches a word of agent 3. -/
theorem procRows_event {w : TxWord} (h : agentOf w = 3#2) (c : Config) (p : Proc) (dir : Dir) :
    (procRows c p dir).find? (·.hits w) = none := by
  rw [List.find?_eq_none]
  intro o ho hh
  rcases List.mem_append.mp ho with ho | ho
  · obtain ⟨x, -, rfl⟩ := List.mem_map.mp ho
    exact agent_ne_three p (((windowRow_hits_iff ..).mp hh).1.symm.trans h)
  · obtain rfl := List.mem_singleton.mp ho
    exact agent_ne_three p (((unmappedRow_hits_iff ..).mp hh).1.symm.trans h)

theorem rowIn_of_event {w : TxWord} (h : agentOf w = 3#2) (c : Config) : rowIn c w = (decodeEvent w).row := by
  simp only [rowIn, rowsOf, List.find?_append, procRows_event h, find_eventRows h, Option.none_or, Option.getD_some]

/-! ### Under REFCFG -/

theorem rowIn_refConfig (w : TxWord) : rowIn refConfig w = (decode w).row := by
  obtain ⟨p, hp⟩ | h := agent_cases w
  · obtain ⟨dir, hd⟩ := exists_bit (dirOf w)
    rw [rowIn_of_processor refConfig hp hd, decode_eq hp hd, decodeAccess_row]
  · rw [rowIn_of_event h, decode_event h]

theorem plainRows_eq : (rowsOf refConfig).filter (fun o => !o.fallback) = plainRows := by
  decide

/-- Settles O51: a processor's word has the row of its first matching window, an event's word the row of its code. -/
theorem regeneratedRowsAreTheTable : Obligations.RegeneratedRowsAreTheTable :=
  ⟨by decide, plainRows_eq, rowIn_refConfig⟩

/-! ### The row of a word is the first of the table that matches it -/

/-- Every word matches a row, the fallback row of its agent at the last. -/
theorem find_rowsOf (c : Config) (w : TxWord) : (rowsOf c).find? (·.hits w) = some (rowIn c w) := by
  have hsome : ∃ o ∈ rowsOf c, o.hits w = true := by
    obtain ⟨p, hp⟩ | h := agent_cases w
    · obtain ⟨dir, hd⟩ := exists_bit (dirOf w)
      refine ⟨unmappedRow p dir, ?_, (unmappedRow_hits_iff p dir w).mpr ⟨hp, hd⟩⟩
      cases p <;> cases dir <;> simp [rowsOf, procRows]
    · exact ⟨_, by simp [rowsOf, eventRows], reservedRow_hits h⟩
  obtain ⟨r, hr⟩ := Option.isSome_iff_exists.mp (List.find?_isSome.mpr hsome)
  rw [rowIn, hr]
  rfl

/-- Some bit that both rows fix differs. -/
abbrev rowsApart (x y : OpRow) : Prop := (x.value ^^^ y.value) &&& x.mask &&& y.mask ≠ 0#27

theorem miss_of_rowsApart {x y : OpRow} {w : TxWord} (h : rowsApart x y) (hx : x.hits w = true) : y.hits w = false := by
  rw [OpRow.hits, beq_iff_eq] at hx
  rw [← Bool.not_eq_true, OpRow.hits, beq_iff_eq]
  intro hy
  refine h (BitVec.eq_of_getLsbD_eq fun i _ => ?_)
  have hxi := congrArg (·.getLsbD i) hx
  have hyi := congrArg (·.getLsbD i) hy
  simp only [BitVec.getLsbD_and] at hxi hyi
  simp only [BitVec.getLsbD_and, BitVec.getLsbD_xor, BitVec.getLsbD_zero, ← hxi, ← hyi]
  cases w.getLsbD i <;> cases x.mask.getLsbD i <;> cases y.mask.getLsbD i <;> rfl

/-- A fallback row of the table stands after the plain rows it gives way to. -/
theorem refRows_apart : (rowsOf refConfig).Pairwise fun x y => x.fallback = true → y.fallback = false →
    rowsApart x y := by
  decide

theorem plain_miss_of_fallback {w : TxWord} (hfall : (rowIn refConfig w).fallback = true) :
    ∀ o ∈ plainRows, o.hits w = false := by
  obtain ⟨hhit, before, after, hrows, hbefore⟩ := List.find?_eq_some_iff_append.mp (find_rowsOf refConfig w)
  have hpair := refRows_apart
  intro o ho
  obtain ⟨hmem, hplain⟩ := List.mem_filter.mp (plainRows_eq ▸ ho)
  rw [hrows] at hmem hpair
  have hplain : o.fallback = false := by simpa using hplain
  rcases List.mem_append.mp hmem with hmem | hmem
  · simpa using hbefore o hmem
  · rcases List.mem_cons.mp hmem with rfl | hmem
    · rw [hfall] at hplain
      cases hplain
    · obtain ⟨-, hafter, -⟩ := List.pairwise_append.mp hpair
      exact miss_of_rowsApart (List.rel_of_pairwise_cons hafter hmem hfall hplain) hhit

theorem decode_wf (w : TxWord) : (decode w).wf = true := by
  obtain ⟨p, hp⟩ | h := agent_cases w
  · obtain ⟨dir, hd⟩ := exists_bit (dirOf w)
    rw [decode_eq hp hd, decodeAccess_wf]
  · rw [decode_event h]
    have hrow := decodeEvent_row w
    generalize decodeEvent w = i at hrow ⊢
    cases hrow with
    | setin g => cases g <;> rfl
    | reserved hres => exact hres
    | _ => rfl

/-- Settles O3: the row of a word is the first row of the table that matches it. -/
theorem everyWordBelongsToItsRow : Obligations.EveryWordBelongsToItsRow := by
  intro w
  rw [← rowIn_refConfig]
  exact ⟨decode_wf w, List.find?_some (p := (OpRow.hits · w)) (find_rowsOf refConfig w), plain_miss_of_fallback⟩

/-- Settles O4: the table is finite, and the bit is there for each pair of its rows. -/
theorem plainRowsDoNotOverlap : Obligations.PlainRowsDoNotOverlap := by
  unfold Obligations.PlainRowsDoNotOverlap
  decide

end Sys2Proof.Proofs
end

section
/-! The IntCtl writes (R150), the codes of the abnormal events (R180), and the words the spec writes out (R84, R88). -/

namespace Sys2Proof.Proofs

open Sys2Proof.Machine Sys2Proof.Claims

/-! ### IntCtl writes -/

theorem intCtlWrite_eq (q : Proc) (lvl : Bool) (s : State) : intCtlWrite q lvl s = latched s q lvl := by
  cases lvl <;> rfl

theorem exec_intCtl {s : State} {i : Instr} {p q : Proc} {a : Addr} {d : Byte} {lvl : Bool}
    (h : Reaches s i ⟨p, .w, a, d⟩ (.intCtl q lvl)) : exec i s = .next (latched s q lvl) := by
  rw [exec_of_reaches h, ← intCtlWrite_eq]
  rfl

/-! The three rows of the reference map (W0.8, W1.4, W2.3), with key bits A11, A0 and A13. -/

theorem refTarget_p0WrIntctl0 (low : BitVec 12) :
    decodeWindows refDecodeP0 .w (0x7#4 ++ low) = .intCtl .p0 (!low.getLsbD 11) := by
  have hrow : (0x7#4 ++ low).toNat / 4096 = 7 := toNat_append_div _ low
  rw [refTarget_p0_w, keyLevel_append_low _ _ _ (by decide), beq_false]
  repeat rw [if_neg (by omega)]
  exact if_pos hrow

theorem refTarget_p1WrIntctl1 (low : BitVec 12) :
    decodeWindows refDecodeP1 .w (0x6#4 ++ low) = .intCtl .p1 (low.getLsbD 0) := by
  have hrow : (0x6#4 ++ low).toNat / 4096 = 6 := toNat_append_div _ low
  rw [refTarget_p1_w, keyLevel_append_low _ _ _ (by decide), beq_true]
  repeat rw [if_neg (by omega)]
  exact if_pos hrow

theorem refTarget_p2WrIntctl2 (low : BitVec 14) :
    decodeWindows refDecodeP2 .w (0x1#2 ++ low) = .intCtl .p2 (!low.getLsbD 13) := by
  have hrow : (0x1#2 ++ low).toNat / 16384 = 1 := toNat_append_div _ low
  have hkey : keyLevel 13 false (0x1#2 ++ low) = !low.getLsbD 13 := by
    rw [keyLevel, BitVec.getLsbD_append, if_pos (by decide), beq_false]
    rfl
  rw [refTarget_p2_w, hkey]
  repeat rw [if_neg (by omega)]
  exact if_pos hrow

/-- Settles O36: the rule of an IntCtl target, and the three rows that reach one. -/
theorem intCtlWritesTheEnableLatch : Obligations.IntCtlWritesTheEnableLatch := by
  refine ⟨fun s i x q lvl h hd => ?_, fun s hmap => ⟨fun low d => ?_, fun hrun => ⟨fun low d => ?_, fun low d => ?_⟩⟩⟩
  · obtain ⟨p, dir, a, d⟩ := x
    obtain rfl : dir = .w := hd
    exact exec_intCtl h
  · exact exec_intCtl (reaches_ref hmap rfl rfl (refTarget_p0WrIntctl0 low))
  · exact exec_intCtl (reaches_ref hmap rfl hrun (refTarget_p1WrIntctl1 low))
  · exact exec_intCtl (reaches_ref hmap rfl hrun (refTarget_p2WrIntctl2 low))

/-! ### The codes of the abnormal events -/

theorem exec_unmapped {s : State} {i : Instr} {x : Access} (h : Reaches s i x .unmapped) :
    exec i s = .next (unmappedAccess x.proc x.dir x.addr x.data s) :=
  exec_of_reaches h

/-- Settles O53: the diagnostic of an unmapped access, the output events one by one, the refusal of the reserved row,
and the failed checks that `step` lists. -/
theorem abnormalEventsHaveTheirCodes : Obligations.AbnormalEventsHaveTheirCodes := by
  refine ⟨fun s i x h => ⟨_, exec_unmapped h, unmappedAccess_diag ..⟩, fun e => ?_, fun s rest => ⟨_, rfl, rfl⟩,
    fun s herr => ⟨_, configurationIsFixed.2 s herr, rfl⟩⟩
  cases e with
  | watchdogReset q => exact .inl ⟨⟨q, rfl⟩, rfl⟩
  | _ => exact .inr ⟨by simp, rfl⟩

/-! ### Written words -/

/-- Settles O5: each word is decoded by its fields. -/
theorem writtenWordsDecodeToTheirRows : Obligations.WrittenWordsDecodeToTheirRows := by
  unfold Obligations.WrittenWordsDecodeToTheirRows
  decide

/-- Settles O6: the lines of R88 and their fields packed. -/
theorem pseudoTransactionsHaveTheirWords : Obligations.PseudoTransactionsHaveTheirWords := by
  unfold Obligations.PseudoTransactionsHaveTheirWords
  decide

end Sys2Proof.Proofs
end

section
/-! The pseudo-transactions under any configuration (R88): a set of addresses of a window, decoded alike, that contains
the address which reaches the target, also contains the one the search finds. -/

namespace Sys2Proof.Proofs

open Sys2Proof.Machine Sys2Proof.Claims

/-! ### An expansion reaches its target -/

theorem assemble_lineOf (p : Proc) (dir : Dir) (a : Addr) :
    assemble (lineOf p dir a) = pack p.agent dir.bit a 0x00#8 := by
  cases dir <;> rfl

theorem decode_assemble_lineOf (p : Proc) (dir : Dir) (a : Addr) :
    (decode (assemble (lineOf p dir a))).access = some ⟨p, dir, a, 0x00#8⟩ := by
  rw [assemble_lineOf, decode_pack, access_decodeAccess]
  cases dir <;> rfl

theorem expandIn_reaches {c : Config} {x : Pseudo} {l : Line} (h : expandIn c x = some l) :
    ∃ p dir a, l = lineOf p dir a ∧ decodeAddr c p dir a = pseudoTarget x := by
  obtain ⟨p, -, hp⟩ := List.exists_of_findSome?_eq_some h
  exact ⟨p, lineTo_reaches hp⟩

/-! ### There is an expansion where the target can be reached -/

/-- The window behind a target (R81). -/
theorem window_of_decodeAddr {c : Config} {p : Proc} {dir : Dir} {a : Addr} {t : Target}
    (h : decodeAddr c p dir a = t) (ht : t ≠ .unmapped) :
    ∃ before w after, c.decode.get p = before ++ w :: after ∧ (∀ v ∈ before, v.hits dir a = false) ∧
      w.hits dir a = true ∧ windowTarget w dir a = t := by
  rw [decodeAddr, decodeWindows_eq_find] at h
  cases hf : (c.decode.get p).find? (·.hits dir a) with
  | none =>
    rw [hf] at h
    exact absurd h.symm ht
  | some w =>
    rw [hf] at h
    obtain ⟨hw, before, after, hws, hbefore⟩ := List.find?_eq_some_iff_append.mp hf
    exact ⟨before, w, after, hws, fun v hv => by simpa using hbefore v hv, hw, h⟩

/-- A set of addresses of a window, `a` among them, on which the window matches and yields what it yields at `a`. -/
structure DecodesAlike (w : Window) (dir : Dir) (a : Addr) (q : Cube) : Prop where
  normal : q.normal
  has : q.has a = true
  hits : ∀ b, q.has b = true → w.hits dir b = true
  target : ∀ b, q.has b = true → windowTarget w dir b = windowTarget w dir a

/-- The addresses of a window at one level of a key bit that the window does not decode. -/
theorem decodesAlike_fix {w : Window} {dir : Dir} {a : Addr} {key : Fin 16} (h1 : okW1 w = true)
    (hfree : keyFree w key = true) (ha : w.hits dir a = true)
    (htarget : ∀ b, b.getLsbD key.val = a.getLsbD key.val → windowTarget w dir b = windowTarget w dir a) :
    DecodesAlike w dir a (Cube.fix ⟨w.mask, w.value⟩ key.val (a.getLsbD key.val)) := by
  obtain ⟨htakes, hcube⟩ := Bool.and_eq_true_iff.mp ha
  obtain ⟨hmask, -⟩ := Bool.and_eq_true_iff.mp hfree
  have hnormal := window_normal h1
  refine ⟨fix_normal hnormal _ _, has_fix hcube rfl, fun b hb => ?_, fun b hb => htarget b (bit_of_fix key.isLt hb)⟩
  exact Bool.and_eq_true_iff.mpr ⟨htakes, has_of_fix hnormal (by simpa using hmask) hb⟩

theorem fix_mem_levels (q : Cube) (i : Nat) (b : Bool) : q.fix i b ∈ [q.fix i false, q.fix i true] := by
  cases b <;> simp

/-- A window that yields the target of a pseudo-transaction has such a set among its cubes: W8 keeps the key bit out of
the mask. -/
theorem exists_cube {c : Config} {p : Proc} {w : Window} {dir : Dir} {a : Addr} {x : Pseudo} (hok : WindowOk c p w)
    (ha : w.hits dir a = true) (ht : windowTarget w dir a = pseudoTarget x) :
    ∃ q ∈ windowCubes w, DecodesAlike w dir a q := by
  have h8 := hok.w8
  have hkey {key : Fin 16} (act : Bool) {b : Addr} (hb : b.getLsbD key.val = a.getLsbD key.val) :
      keyLevel key act b = keyLevel key act a := by rw [keyLevel, keyLevel, hb]
  cases hk : w.kind with
  | intCtl q key act =>
    rw [okW8, hk] at h8
    refine ⟨_, ?_, decodesAlike_fix hok.w1 h8 ha fun b hb => by simp only [windowTarget, hk, hkey act hb]⟩
    simpa only [windowCubes, hk] using fix_mem_levels ..
  | subRst key act =>
    rw [okW8, hk] at h8
    refine ⟨_, ?_, decodesAlike_fix hok.w1 h8 ha fun b hb => by simp only [windowTarget, hk, hkey act hb]⟩
    simpa only [windowCubes, hk] using fix_mem_levels ..
  | ioRst key act =>
    rw [okW8, hk] at h8
    refine ⟨_, ?_, decodesAlike_fix hok.w1 h8 ha fun b hb => by simp only [windowTarget, hk, hkey act hb]⟩
    simpa only [windowCubes, hk] using fix_mem_levels ..
  | watchdog q =>
    obtain ⟨htakes, hcube⟩ := Bool.and_eq_true_iff.mp ha
    refine ⟨⟨w.mask, w.value⟩, by simp [windowCubes, hk], window_normal hok.w1, hcube, fun b hb => ?_, fun b _ => ?_⟩
    · exact Bool.and_eq_true_iff.mpr ⟨htakes, hb⟩
    · simp only [windowTarget, hk]
  | _ =>
    rw [windowTarget, hk] at ht
    cases x <;> cases ht

theorem pseudoTarget_ne_unmapped (x : Pseudo) : pseudoTarget x ≠ .unmapped := by
  cases x <;> simp [pseudoTarget]

/-- In the set of addresses of the first matching window the search finds one that no window before it matches. -/
theorem lineTo_pseudoTarget {c : Config} {x : Pseudo} {p : Proc} {dir : Dir} {a : Addr} (hc : accepted c = true)
    (h : decodeAddr c p dir a = pseudoTarget x) : lineTo c (pseudoTarget x) p ≠ none := by
  obtain ⟨before, w, after, hws, hbefore, hw, ht⟩ := window_of_decodeAddr h (pseudoTarget_ne_unmapped x)
  have hok := (accepted_iff c hc).windows p
  rw [hws] at hok
  obtain ⟨q, hq, halike⟩ := exists_cube (hok w (by simp)) hw ht
  obtain ⟨b, hb⟩ := unshadowed_complete before dir q a (fun v hv => (hok v (by simp [hv])).w1) halike.has hbefore
  obtain ⟨hhas, hmiss⟩ := unshadowed_sound before dir q b halike.normal hb
  refine lineTo_ne_none (dir := dir) (a := b) ?_ ?_
  · exact mem_tableAccesses (dir, b) _ before w after [] hws (mem_windowAccesses hq hb)
  · rw [firstMatchingWindowWins.1 c p dir b before w after hws hmiss (halike.hits b hhas), halike.target b hhas, ht]

theorem expandIn_ne_none {c : Config} {x : Pseudo} {p : Proc} (h : lineTo c (pseudoTarget x) p ≠ none) :
    expandIn c x ≠ none := by
  intro hnone
  refine h (List.findSome?_eq_none_iff.mp hnone p ?_)
  cases p <;> simp

theorem expandIn_refConfig (x : Pseudo) : expandIn refConfig x = some x.expand := by
  cases x <;> decide

/-- Settles O50: what the search answers decodes to the target, and it answers where an address of some table does. -/
theorem pseudoTransactionsFollowTheConfiguration : Obligations.PseudoTransactionsFollowTheConfiguration := by
  refine ⟨expandIn_refConfig, fun c x l h => ?_, fun c x p dir a hc h => expandIn_ne_none (lineTo_pseudoTarget hc h)⟩
  obtain ⟨p, dir, a, rfl, hd⟩ := expandIn_reaches h
  exact ⟨_, decode_assemble_lineOf p dir a, rfl, hd⟩

end Sys2Proof.Proofs
end

section
/-! Every unreserved word has a step (R102, R106, R183), and the frame of a processor transaction (R107). -/

namespace Sys2Proof.Proofs

open Sys2Proof.Machine Sys2Proof.Claims

/-! ### Every unreserved word has a step -/

/-- The words R73 reserves are those the decoder gives to the reserved row. -/
theorem isReservedWord_iff (w : TxWord) : isReservedWord w = true ↔ ∃ rest, decode w = .evReserved rest := by
  rw [reservedWordsAreRefused.1 w, isReservedWord, Bool.and_eq_true, beq_iff_eq, isReservedRest_iff]

/-- Settles O15: under an accepted configuration every bus access is served, and the reserved row is the only event that
is refused. -/
theorem everyUnreservedWordHasAStep : Obligations.EveryUnreservedWordHasAStep := by
  intro s w rest hc hp hres
  rw [step_of_pending hc hp]
  cases hx : (decode w).access with
  | some x =>
    obtain ⟨t, ht, -⟩ := procStep_effect x.proc x.dir x.addr x.data (taken s rest) hc
    exact ⟨t, (exec_of_access _ _ x hx).trans ht⟩
  | none =>
    obtain ⟨t, ht, -⟩ | ⟨r, hr, -⟩ := exec_of_event (decode w) (taken s rest) hx
    · exact ⟨t, ht⟩
    · rw [(isReservedWord_iff w).mpr ⟨r, hr⟩] at hres
      cases hres

/-! ### The frame of a processor transaction -/

/-- An I/O write changes the outputs alone, and appends one coin pulse at most (R138-R142). -/
theorem ioWrite_frame (slot : Slot) (idx : Nat) (d : Byte) (s : State) :
    busFrame s (ioWrite slot idx d s) .w (.io slot idx) := by
  obtain ⟨-, ht⟩ | ⟨-, ht⟩ := ioWrite_cases slot idx d s
  · rw [ht]
    exact ⟨rfl, .inl rfl⟩
  · rw [ht]
    split
    · refine ⟨rfl, ?_⟩
      rw [coinPort0_out]
      exact (ite_eq_or_eq ..).imp_right (Exists.intro 0)
    · refine ⟨rfl, ?_⟩
      rw [coinPort1_out]
      exact (ite_eq_or_eq ..).imp_right (Exists.intro 1)

/-- An IntCtl write changes the latch and the line of its own processor (R150). -/
theorem intCtlWrite_frame (q : Proc) (lvl : Bool) (dir : Dir) (s : State) :
    busFrame s (intCtlWrite q lvl s) dir (.intCtl q lvl) := by
  refine ⟨rfl, fun p hp => ⟨perProc_get_set_other _ _ _ _ hp, ?_⟩⟩
  cases lvl
  · exact perProc_get_set_other _ _ _ _ hp
  · rfl

/-- What the rule of a target leaves unchanged (R107). -/
theorem busFrame_of_served {x : Access} {s t : State} {g : Target} (h : Served x s g t) : busFrame s t x.dir g := by
  cases h with
  | sharedRead r off hd => rw [hd]; rfl
  | sharedWrite r off hd =>
    rw [hd]
    exact ⟨rfl, fun q c hne => regionRead_regionWrite_other s r q off c x.data hne⟩
  | rom => rfl
  | ioRead slot idx hd => rw [hd]; rfl
  | ioWrite slot idx hd => rw [hd]; exact ioWrite_frame slot idx x.data s
  | intCtl q lvl => exact intCtlWrite_frame q lvl x.dir s
  | subRst lvl => rw [subRstWrite_eq]; cases lvl <;> exact ⟨rfl, rfl⟩
  | ioRst => rfl
  | watchdogRead => exact ⟨rfl, fun p hp => perProc_get_set_other _ _ _ _ hp⟩
  | watchdogWrite => exact ⟨rfl, fun p hp => perProc_get_set_other _ _ _ _ hp⟩
  | unmapped => cases x.dir <;> exact ⟨rfl, _, rfl⟩

/-- Of the rules only that of an I/O write appends an output event, and it is a coin pulse (R107). -/
theorem out_of_served {x : Access} {s t : State} {g : Target} (h : Served x s g t) :
    t.out = s.out ∨ ∃ k, t.out = s.out ++ [.coinPulse k] := by
  cases h with
  | ioWrite slot idx => exact (ioWrite_frame slot idx x.data s).2
  | _ => exact .inl (by simp)

/-- Only a TICK asserts an interrupt line (R107, R170). -/
theorem irq_of_access {s t : State} {i : Instr} {x : Access} {q : Proc} (hx : i.access = some x)
    (h : exec i s = .next t) (ht : t.irq.get q = true) : s.irq.get q = true := by
  by_contra hs
  obtain ⟨rfl, -⟩ | ⟨hf, -⟩ := irq_changed (execEffect_of_exec h) fun heq => hs (heq ▸ ht)
  · cases hx
  · simp [ht] at hf

/-- Settles O41: the rule that served the target has the target's frame, and the only event it can append is a coin
pulse. -/
theorem processorTransactionsChangeOnlyTheirTarget : Obligations.ProcessorTransactionsChangeOnlyTheirTarget := by
  intro s t i x g _ hreach h
  have hserved : Served x s g t := served_of_targetRule ((exec_of_reaches hreach).symm.trans h)
  refine ⟨busFrame_of_served hserved, fun q => irq_of_access hreach.1 h, ?_⟩
  obtain hout | ⟨k, hout⟩ := out_of_served hserved
  · exact ⟨[], by simp [hout], by simp⟩
  · exact ⟨_, hout, by simp⟩

end Sys2Proof.Proofs
end

section
/-! The I/O chips (R131-R142): what a port returns and drives, in the words of the statements, and the rows of the
reference map that reach one. -/

namespace Sys2Proof.Proofs

open Sys2Proof.Machine Sys2Proof.Claims

/-! ### The rules of a port -/

theorem portBinds_port (b : PortBinds) (idx : Nat) : PortBinds.port b idx = [b.r0, b.r1, b.r2, b.r3].getD idx none := by
  match idx with
  | 0 | 1 | 2 | 3 => rfl
  | _ + 4 => rfl

theorem readBind_eq_bindsOf (c : Config) (k : ChipKind) (idx : Nat) : readBind c k idx = bindsOf c k idx := by
  cases k
  · exact portBinds_port c.bindPlayerCoin idx
  · exact portBinds_port c.bindDipSwitch idx
  · rfl

theorem nibble_eq_nibbleOf (b : Byte) (half : Half) : nibble half b = nibbleOf b half := by
  cases half <;> exact BitVec.setWidth_eq_append (by decide)

/-- The chips of slots 0 and 1 share the reset level (R33). -/
theorem chipReset_modelled {slot : Slot} (h : slot ≠ .s2) (s : State) : chipReset s slot = s.iorst := by
  cases slot
  · rfl
  · rfl
  · exact absurd rfl h

theorem ioReadValue_eq_portValue (s : State) (slot : Slot) (idx : Nat) :
    ioReadValue s slot idx = portValue s slot idx := by
  by_cases h2 : slot = .s2
  · rw [portValue, if_pos h2, h2, ioReadValue_third]
  cases hr : s.iorst
  · rw [ioReadValue_running s slot idx h2 ((chipReset_modelled h2 s).trans hr), portValue, if_neg h2, hr,
      readBind_eq_bindsOf]
    simp only [nibble_eq_nibbleOf]
    rfl
  · rw [ioReadValue_quiescent s slot idx ((chipReset_modelled h2 s).trans hr), portValue, if_neg h2, if_pos hr]

/-- A coin pulse follows the write of a clear coin bit (R140, R141). -/
theorem emitIf_not (bit : Bool) (e : OutEvent) (s : State) :
    emitIf (!bit) e s = { s with out := s.out ++ if bit then [] else [e] } := by
  cases bit
  · rfl
  · exact congrArg (fun l => { s with out := l }) (List.append_nil s.out).symm

theorem coinPort_eq_coinWrite (idx : Nat) (d : Byte) (s : State) :
    (if idx = 0 then coinPort0 d s else coinPort1 d s) = coinWrite s idx d := by
  rw [coinPort0, coinPort1, emitIf_not, emitIf_not, coinWrite]
  rfl

theorem ioWrite_eq_portWrite (slot : Slot) (idx : Nat) (d : Byte) (s : State) :
    ioWrite slot idx d s = portWrite s slot idx d := by
  rw [ioWrite_eq, coinPort_eq_coinWrite, portWrite]
  refine if_congr (and_congr_right fun h2 => ?_) rfl rfl
  rw [chipReset_modelled h2]

theorem exec_io_read {s : State} {i : Instr} {p : Proc} {a : Addr} {d : Byte} {slot : Slot} {idx : Nat}
    (h : Reaches s i ⟨p, .r, a, d⟩ (.io slot idx)) :
    exec i s = .next { s with reply := .data p (portValue s slot idx) } := by
  rw [exec_of_reaches h, ← ioReadValue_eq_portValue]
  rfl

theorem exec_io_write {s : State} {i : Instr} {p : Proc} {a : Addr} {d : Byte} {slot : Slot} {idx : Nat}
    (h : Reaches s i ⟨p, .w, a, d⟩ (.io slot idx)) : exec i s = .next (portWrite s slot idx d) := by
  rw [exec_of_reaches h, ← ioWrite_eq_portWrite]
  rfl

/-! ### The rows of the reference map (W0.5 to W0.7) -/

/-- The address bits A[15:4] at which P0 sees a chip slot under REFCFG (R84). -/
def ioPage : Slot → BitVec 12
  | .s0 => 0x680#12
  | .s1 => 0x681#12
  | .s2 => 0x682#12

/-- The three chip windows lie on page 13 of 2048 bytes, one row of 16 addresses each (R84). -/
theorem refTarget_ioPage (slot : Slot) (dir : Dir) (low : BitVec 4) :
    decodeWindows refDecodeP0 dir (ioPage slot ++ low) = .io slot (portIndex dir low.toNat) := by
  have hrow : (ioPage slot ++ low).toNat / 16 = (ioPage slot).toNat := toNat_append_div _ low
  have hlow : (ioPage slot ++ low).toNat % 16 = low.toNat := toNat_append_mod _ low
  have hslot : (ioPage slot).toNat / 128 = 13 := by cases slot <;> rfl
  have hpage : (ioPage slot ++ low).toNat / 2048 = 13 := by omega
  cases dir
  · have hidx : (ioPage slot ++ low).toNat % 4 = low.toNat % 4 := by omega
    rw [refTarget_p0_r, hpage, hrow, hidx]
    cases slot <;> rfl
  · have hidx : (ioPage slot ++ low).toNat % 2 = low.toNat % 2 := by omega
    rw [refTarget_p0_w, hpage, hrow, hidx]
    cases slot <;> rfl

/-- On the reference map a row at a chip's addresses reaches the port its low address bits name. -/
theorem reaches_ioPage {s : State} {i : Instr} {dir : Dir} {low : BitVec 4} {d : Byte} (slot : Slot)
    (hmap : s.cfg.decode = refDecode) (hx : i.access = some ⟨.p0, dir, ioPage slot ++ low, d⟩) :
    Reaches s i ⟨.p0, dir, ioPage slot ++ low, d⟩ (.io slot (portIndex dir low.toNat)) :=
  reaches_ref hmap hx rfl (refTarget_ioPage slot dir low)

/-- Settles O34: the rule of a port, and the three rows that read one. -/
theorem ioReadsReturnThePortValue : Obligations.IoReadsReturnThePortValue := by
  refine ⟨?_, fun s hmap low => ⟨?_, ?_, ?_⟩⟩
  · rintro s i ⟨p, dir, a, d⟩ slot idx h rfl
    exact exec_io_read h
  · exact exec_io_read (reaches_ioPage .s0 hmap rfl)
  · exact exec_io_read (reaches_ioPage .s1 hmap rfl)
  · exact exec_io_read (slot := .s2) (reaches_ioPage .s2 hmap rfl)

/-- Settles O35: the rule of a port, and the three rows that write one; slot 2 has no chip that takes the write. -/
theorem ioWritesDriveTheOutputs : Obligations.IoWritesDriveTheOutputs := by
  refine ⟨?_, fun s hmap low d => ⟨?_, ?_, ?_⟩⟩
  · rintro s i ⟨p, dir, a, d⟩ slot idx h rfl
    exact exec_io_write h
  · exact exec_io_write (reaches_ioPage .s0 hmap rfl)
  · exact exec_io_write (reaches_ioPage .s1 hmap rfl)
  · exact exec_io_write (slot := .s2) (reaches_ioPage .s2 hmap rfl)

end Sys2Proof.Proofs
end

section
/-! The chip kinds of slots 0 and 1 swapped (R145): a rule answers as the rule of the target across, swapped back. -/

namespace Sys2Proof.Proofs

open Sys2Proof.Machine Sys2Proof.Claims

/-- The target across: the port of the other slot, every other target itself. -/
def swapTarget : Target → Target
  | .io slot idx => .io (otherSlot slot) idx
  | g => g

theorem swapTarget_of_not_io {g : Target} (h : ∀ slot idx, slot ≠ .s2 → g ≠ .io slot idx) : swapTarget g = g := by
  cases g with
  | io slot idx =>
    cases slot
    · exact absurd rfl (h .s0 idx (by decide))
    · exact absurd rfl (h .s1 idx (by decide))
    · rfl
  | _ => rfl

theorem otherSlot_eq_third (slot : Slot) : otherSlot slot = .s2 ↔ slot = .s2 := by
  cases slot <;> decide

theorem kinds_swapRev (s : State) (slot : Slot) :
    (swapRev s).cfg.kinds.get slot = s.cfg.kinds.get (otherSlot slot) := by
  cases slot <;> rfl

theorem portValue_swapRev (s : State) (slot : Slot) (idx : Nat) :
    portValue (swapRev s) slot idx = portValue s (otherSlot slot) idx := by
  cases slot <;> rfl

theorem coinWrite_swapRev (s : State) (idx : Nat) (d : Byte) :
    coinWrite (swapRev s) idx d = swapRev (coinWrite s idx d) := by
  rw [coinWrite, coinWrite, apply_ite swapRev]
  rfl

theorem portWrite_swapRev (s : State) (slot : Slot) (idx : Nat) (d : Byte) :
    portWrite (swapRev s) slot idx d = swapRev (portWrite s (otherSlot slot) idx d) := by
  rw [portWrite, portWrite, coinWrite_swapRev, kinds_swapRev, apply_ite swapRev]
  exact if_congr (and_congr_left' (otherSlot_eq_third slot).not.symm) rfl rfl

/-- Of the rules of R106 only those of the I/O ports read the chip kinds. -/
theorem targetRule_swapRev (p : Proc) (dir : Dir) (a : Addr) (d : Byte) (g : Target) (s : State) :
    targetRule p dir a d g (swapRev s) = mapNext swapRev (targetRule p dir a d (swapTarget g) s) := by
  cases g with
  | shared r off =>
    cases dir
    · simp only [swapTarget, targetRule, sharedRead, apply_ite (mapNext _)]
      rfl
    · simp only [swapTarget, targetRule, sharedWrite, apply_ite (mapNext _)]
      rfl
  | rom b off =>
    cases dir
    · simp only [swapTarget, targetRule, romAccess, apply_ite (mapNext _)]
      rfl
    · rfl
  | io slot idx =>
    cases dir
    · simp only [swapTarget, targetRule, ioRead, ioReadValue_eq_portValue, portValue_swapRev]
      rfl
    · simp only [swapTarget, targetRule, ioWrite_eq_portWrite, portWrite_swapRev]
      rfl
  | subRst lvl =>
    cases dir
    · rfl
    · cases lvl <;> rfl
  | watchdog q =>
    simp only [swapTarget, targetRule, watchdogAccess, apply_ite (mapNext _)]
    cases dir <;> rfl
  | _ => cases dir <;> rfl

/-- Reaching a target does not depend on the chip kinds (R101). -/
theorem reaches_swapRev {s : State} {i : Instr} {x : Access} {g : Target} (h : Reaches s i x g) :
    Reaches (swapRev s) i x g := h

theorem exec_swapRev_of_reaches {s : State} {i : Instr} {x : Access} {g : Target} (h : Reaches s i x g) :
    exec i (swapRev s) = mapNext swapRev (targetRule x.proc x.dir x.addr x.data (swapTarget g) s) :=
  (exec_of_reaches (reaches_swapRev h)).trans (targetRule_swapRev ..)

/-- TICK reads the routes of the chip pulses, not the kinds of the chips (R143). -/
theorem tick_swapRev (s : State) : tick (swapRev s) = swapRev (tick s) := by
  rw [tick, tick, expireWatchdogs, expireWatchdogs, apply_ite swapRev]
  rfl

theorem exec_event_swapRev {i : Instr} (hi : i.access = none) (s : State) :
    exec i (swapRev s) = mapNext swapRev (exec i s) := by
  cases i <;> cases hi
  case evTick => exact congrArg _ (tick_swapRev s)
  all_goals rfl

/-- Settles O49: the rule of a port is that of the port across, and every other instruction runs the same rule. -/
theorem revisionSwapExchangesTheSlots : Obligations.RevisionSwapExchangesTheSlots := by
  refine ⟨?_, fun s i hno => ?_⟩
  · rintro s i ⟨p, dir, a, d⟩ slot idx - h
    constructor
    · rintro rfl
      exact (exec_io_read (reaches_swapRev h)).trans (by rw [portValue_swapRev])
    · rintro rfl
      exact (exec_io_write (reaches_swapRev h)).trans (by rw [portWrite_swapRev])
  · cases hx : i.access with
    | none => exact exec_event_swapRev hx s
    | some x =>
      by_cases hr : resetLine s x.proc = true
      · rw [exec_of_held hx hr]
        exact exec_of_held hx hr
      · have h : Reaches s i x (decodeAddr s.cfg x.proc x.dir x.addr) := ⟨hx, by simpa using hr, rfl⟩
        rw [exec_swapRev_of_reaches h, exec_of_reaches h, swapTarget_of_not_io]
        exact fun slot idx hs hg => hno ⟨x, slot, idx, hs, hg ▸ h⟩

end Sys2Proof.Proofs
end

section
/-! TICK in full (R170). -/

namespace Sys2Proof.Proofs

open Sys2Proof.Machine Sys2Proof.Claims

theorem perProc_ext {α : Type} {v w : PerProc α} (h : ∀ q, v.get q = w.get q) : v = w := by
  obtain ⟨a, b, c⟩ := v
  obtain rfl : a = w.p0 := h .p0
  obtain rfl : b = w.p1 := h .p1
  obtain rfl : c = w.p2 := h .p2
  rfl

/-- The counting part of a TICK writes the lines, the counters and the output log alone. -/
theorem counted_frame (s : State) :
    counted s = { s with irq := (counted s).irq, wd := (counted s).wd, out := (counted s).out } := rfl

theorem counted_irq (s : State) :
    (counted s).irq = ⟨s.irq.p0 || s.ie.p0, s.irq.p1 || s.ie.p1, s.irq.p2 || s.ie.p2⟩ := rfl

theorem counted_out_append (s : State) :
    (counted s).out = s.out ++ if s.iorst then [] else
      [.chipIrqPulse .s0 s.cfg.chipIrqRoute0, .chipIrqPulse .s1 s.cfg.chipIrqRoute1] := by
  rw [counted_out, apply_ite (s.out ++ ·), List.append_nil]

theorem watchdogExpires_iff (s : State) : WatchdogExpires s ↔ ∃ q, hasExpired (counted s) q = true := by
  refine ⟨fun ⟨q, hhas, hrun, hlimit⟩ => ⟨q, ?_⟩, watchdogExpires_of_hasExpired⟩
  simp [hasExpired_counted, counts, hhas, hrun, hlimit]

/-- Events in the output log before a ColdInit stand before its reset pulses (R210). -/
theorem coldInit_of_out (s : State) (l : List OutEvent) : coldInit { s with out := s.out ++ l } = coldReset s l := by
  rw [coldInit_eq, coldReset, List.append_nil]
  rfl

/-- Settles O42: `u` is the state after the counting, and a watchdog expired in it decides whether a ColdInit follows. -/
theorem tickDrivesTheFrame : Obligations.TickDrivesTheFrame := by
  intro s counts wd late u
  have hu : counted s = u := by
    have hwd : (counted s).wd = u.wd := perProc_ext fun q => (counted_wd_get s q).trans (by cases q <;> rfl)
    rw [counted_frame, counted_irq, counted_out_append, hwd]
  have hlate : expiryEvents u = late .p0 ++ late .p1 ++ late .p2 := rfl
  constructor
  · intro hno
    obtain ⟨-, ht⟩ | ⟨hexp, -⟩ := tick_cases s
    · exact congrArg _ (ht.trans hu)
    · exact absurd ((watchdogExpires_iff s).mpr hexp) hno
  · intro hyes
    obtain ⟨q, hq⟩ := (watchdogExpires_iff s).mp hyes
    have ht : tick s = coldInit { u with out := u.out ++ expiryEvents u } := hu ▸ tick_of_expired hq
    rw [coldInit_of_out, hlate] at ht
    exact congrArg _ ht

end Sys2Proof.Proofs
end

section
/-! The data byte of a control or watchdog write (R160), and the interrupt that a disabled latch loses (R171). -/

namespace Sys2Proof.Proofs

open Sys2Proof.Machine Sys2Proof.Claims

/-! ### The data byte -/

/-- The write rules of the control and watchdog targets take no data byte (R150, R152, R154, R156). -/
theorem targetRule_control_write {g : Target}
    (hg : (∃ q lvl, g = .intCtl q lvl) ∨ (∃ lvl, g = .subRst lvl) ∨ (∃ lvl, g = .ioRst lvl) ∨ ∃ q, g = .watchdog q)
    (p : Proc) (a : Addr) (d e : Byte) (s : State) : targetRule p .w a d g s = targetRule p .w a e g s := by
  obtain ⟨q, lvl, rfl⟩ | ⟨lvl, rfl⟩ | ⟨lvl, rfl⟩ | ⟨q, rfl⟩ := hg
  · rfl
  · rfl
  · rfl
  · rfl

/-- Settles O29: both accesses are held alike, or both run the rule of the one target. -/
theorem controlWritesIgnoreTheDataByte : Obligations.ControlWritesIgnoreTheDataByte := by
  rintro s i j ⟨p, dir, a, d⟩ ⟨_, _, _, e⟩ g hi hj rfl hy rfl hg
  cases hy
  rw [exec_of_access i s _ hi, exec_of_access j s _ hj, procStep, procStep, targetRule_control_write hg p a d e s]

/-! ### Lost interrupts -/

/-- A TICK asserts no line whose latch is clear (R150, R171). -/
theorem tick_irq_of_disabled {s t : State} {q : Proc} (hinv : IrqOnlyWhenEnabled s) (hie : s.ie.get q = false)
    (h : exec .evTick s = .next t) : t.irq.get q = false := by
  have hs : s.irq.get q = false := by
    cases hirq : s.irq.get q
    · rfl
    · exact hie ▸ (hinv q hirq).symm
  by_contra ht
  obtain ⟨-, hon, -⟩ | ⟨hoff, -⟩ := irq_changed (execEffect_of_exec h) (by rwa [hs])
  · exact absurd (hie.symm.trans hon) Bool.false_ne_true
  · exact ht hoff

/-- Settles O47: the enable sets the latch and leaves the lines as the TICK left them. -/
theorem lostInterruptIsNotDeliveredLater : Obligations.LostInterruptIsNotDeliveredLater := by
  rintro s t u i ⟨p, dir, a, d⟩ q hinv hie htick hreach rfl hwrite
  rw [exec_intCtl hreach] at hwrite
  cases hwrite
  have hline : t.irq.get q = false := tick_irq_of_disabled hinv hie htick
  exact ⟨perProc_get_set_same .., hline⟩

end Sys2Proof.Proofs
end

section
/-! SYSRESET in full (R175, R212): its counters and pulses are those of a ColdInit, its latches are not. -/

namespace Sys2Proof.Proofs

open Sys2Proof.Machine Sys2Proof.Claims

/-- The reset lines are asserted where the configuration says assert, and kept where it says keep (R212). -/
theorem sysReset_eq (s : State) : sysReset s = { s with
    ie := s.ie.set .p1 false
    irq := s.irq.set .p1 false
    subrst := if s.cfg.sysResetSubRst = true then true else s.subrst
    iorst := if s.cfg.sysResetIoRst = true then true else s.iorst
    wd := zeroedWd s
    out := s.out ++ resetEvents } := by
  rw [sysReset, zeroWatchdogs_eq, resetPulses_eq]
  simp only [Bool.if_true_left, Bool.decide_eq_true]
  rfl

/-- Settles O45: SYSRESET is SysReset, and clearing P1's entry keeps those of P0 and P2. -/
theorem sysResetClearsOnlyP1 : Obligations.SysResetClearsOnlyP1 :=
  fun s => congrArg _ (sysReset_eq s)

end Sys2Proof.Proofs
end

section
/-! What the setup checks report (R183): a check that a window fails, or that the configuration fails as a whole, is
among the errors of the configuration. -/

namespace Sys2Proof.Proofs

open Sys2Proof.Machine

theorem mem_check {ok : Bool} (h : ok = false) (n : Nat) (w : Option (Proc × Nat)) : ⟨n, w⟩ ∈ check ok n w := by
  subst h
  exact List.mem_singleton_self _

/-- A table numbered from `n` reports the failed checks of its window `k` under the number `n + k`. -/
theorem mem_tableErrors {c : Config} {p : Proc} {w : Window} {e : ConfigError} {ws : List Window} {n k : Nat}
    (hw : ws[k]? = some w) (he : e ∈ windowErrors c p (n + k) w) : e ∈ tableErrors c p n ws := by
  induction ws generalizing n k with
  | nil => cases hw
  | cons x ws ih =>
    cases k with
    | zero =>
      cases hw
      exact List.mem_append_left _ he
    | succ k => exact List.mem_append_right _ (ih hw (by rwa [Nat.add_right_comm]))

/-- A configuration reports the failed checks of every window. -/
theorem mem_configErrors_of_window {c : Config} {w : Window} {e : ConfigError} (p : Proc) (k : Nat)
    (hw : (c.decode.get p)[k]? = some w) (he : e ∈ windowErrors c p k w) : e ∈ configErrors c := by
  have htable : e ∈ tableErrors c p 0 (c.decode.get p) := mem_tableErrors hw (by rwa [Nat.zero_add])
  cases p <;> rw [PerProc.get] at htable <;> simp [configErrors, htable]

/-- W7, the table's half: a watchdog without a window to service it. -/
theorem mem_configErrors_of_unserviced {c : Config} (q : Proc) (h : okW7Table c q = false) :
    ⟨7, none⟩ ∈ configErrors c := by
  have hq := mem_check h 7 none
  cases q <;> simp [configErrors, hq]

theorem mem_configErrors_of_limit {c : Config} (h : okW12 c = false) : ⟨12, none⟩ ∈ configErrors c :=
  List.mem_append_right _ (mem_check h 12 none)

/-- Settles O12: of each changed configuration, the window that fails its check (K.1 to K.5), the watchdog limit (K.6),
and the watchdog of P1, which no window services (K.7). -/
theorem setupChecksRefuseTheVectors : Obligations.SetupChecksRefuseTheVectors := by
  have report {c : Config} (e : ConfigError) (he : e ∈ configErrors c) : errorCode e ∈ (configErrors c).map errorCode :=
    List.mem_map_of_mem he
  refine ⟨by decide, ?k1, ?k2, ?k3, ?k4, ?k5, ?k6, ?k7⟩
  case k1 => exact report ⟨6, some (.p0, 7)⟩ (mem_configErrors_of_window .p0 7 rfl (by decide))
  case k2 => exact report ⟨8, some (.p0, 7)⟩ (mem_configErrors_of_window .p0 7 rfl (by decide))
  case k3 => exact report ⟨4, some (.p1, 0)⟩ (mem_configErrors_of_window .p1 0 rfl (by decide))
  case k4 => exact report ⟨3, some (.p0, 3)⟩ (mem_configErrors_of_window .p0 3 rfl (by decide))
  case k5 => exact report ⟨9, some (.p1, 5)⟩ (mem_configErrors_of_window .p1 5 rfl (by decide))
  case k6 => exact report ⟨12, none⟩ (mem_configErrors_of_limit rfl)
  case k7 => exact report ⟨7, none⟩ (mem_configErrors_of_unserviced .p1 rfl)

end Sys2Proof.Proofs
end
